-- ==== Sys2Proof/Word.lean ====
section
/-! DEFINITION. The two word sizes of the machine (spec/00_scope.md R6). -/

namespace Sys2Proof

/-- `u8` of the spec: the unit of one bus access and the width of a general register (R6). -/
abbrev Byte := BitVec 8

/-- `u16` of the spec: an address, PC, SP or a register pair (R6). -/
abbrev Word := BitVec 16

end Sys2Proof
end

