-- ==== Sys2Proof/Syntax.lean ====
section
/-! DEFINITION. The instruction set as one inductive: one constructor per row of spec/opcode_table.json, in the table's
order but for the undefined opcodes, which stand after the base instructions, and the operand names of spec/30_encoding.md R82. A constructor's name is its mnemonic, with `mHL` for `(HL)`,
`mHLi` and `mHLd` for `(HL+)` and `(HL-)`, and `ma16`, `ma8`, `mC` for `(a16)`, `(a8)`, `(C)`. -/

namespace Sys2Proof

/-- The register operands of `reg8` (R82); index 6, the byte at HL, is `Operand8.memHL`. -/
inductive Reg8 where
  | b
  | c
  | d
  | e
  | h
  | l
  | a
  deriving DecidableEq, Repr

/-- `reg8(i)`: a register or the byte at address HL (R82). -/
inductive Operand8 where
  | reg (r : Reg8)
  | memHL
  deriving DecidableEq, Repr

/-- `rp(p)`: the pairs of `LD rr,n16`, `INC/DEC rr` and `ADD HL,rr` (R82). -/
inductive Pair where
  | bc
  | de
  | hl
  | sp
  deriving DecidableEq, Repr

/-- `rp2(p)`: the pairs of `PUSH` and `POP` (R82). -/
inductive StackPair where
  | bc
  | de
  | hl
  | af
  deriving DecidableEq, Repr

/-- `cc(c)` (R82, R250). -/
inductive Cond where
  | nz
  | z
  | nc
  | c
  deriving DecidableEq, Repr

/-- `alu(y)` (R82). -/
inductive AluOp where
  | add
  | adc
  | sub
  | sbc
  | and
  | xor
  | or
  | cp
  deriving DecidableEq, Repr

/-- `rot(arg)` (R82). -/
inductive RotOp where
  | rlc
  | rrc
  | rl
  | rr
  | sla
  | sra
  | swap
  | srl
  deriving DecidableEq, Repr

/-- The instructions: base opcodes (R88), the undefined base opcodes (R91), then the CB opcodes (R89). `n` is an immediate, `e` a displacement byte,
`o` the byte after the prefix. -/
inductive Instr where
  | nop -- 0x00: NOP (R270)
  | ld_BC_n16 (n : Word) -- 0x01: LD BC,n16 (R120)
  | ld_mBC_A -- 0x02: LD (BC),A (R107)
  | inc_BC -- 0x03: INC BC (R193)
  | inc_B -- 0x04: INC B (R174)
  | dec_B -- 0x05: DEC B (R176)
  | ld_B_n8 (n : Byte) -- 0x06: LD B,n8 (R103)
  | rlca -- 0x07: RLCA (R210)
  | ld_ma16_SP (n : Word) -- 0x08: LD (a16),SP (R121)
  | add_HL_BC -- 0x09: ADD HL,BC (R192)
  | ld_A_mBC -- 0x0A: LD A,(BC) (R105)
  | dec_BC -- 0x0B: DEC BC (R194)
  | inc_C -- 0x0C: INC C (R174)
  | dec_C -- 0x0D: DEC C (R176)
  | ld_C_n8 (n : Byte) -- 0x0E: LD C,n8 (R103)
  | rrca -- 0x0F: RRCA (R211)
  | stop (n : Byte) -- 0x10: STOP (R272)
  | ld_DE_n16 (n : Word) -- 0x11: LD DE,n16 (R120)
  | ld_mDE_A -- 0x12: LD (DE),A (R108)
  | inc_DE -- 0x13: INC DE (R193)
  | inc_D -- 0x14: INC D (R174)
  | dec_D -- 0x15: DEC D (R176)
  | ld_D_n8 (n : Byte) -- 0x16: LD D,n8 (R103)
  | rla -- 0x17: RLA (R212)
  | jr_e8 (e : Byte) -- 0x18: JR e8 (R254)
  | add_HL_DE -- 0x19: ADD HL,DE (R192)
  | ld_A_mDE -- 0x1A: LD A,(DE) (R106)
  | dec_DE -- 0x1B: DEC DE (R194)
  | inc_E -- 0x1C: INC E (R174)
  | dec_E -- 0x1D: DEC E (R176)
  | ld_E_n8 (n : Byte) -- 0x1E: LD E,n8 (R103)
  | rra -- 0x1F: RRA (R213)
  | jr_NZ_e8 (e : Byte) -- 0x20: JR NZ,e8 (R255)
  | ld_HL_n16 (n : Word) -- 0x21: LD HL,n16 (R120)
  | ld_mHLi_A -- 0x22: LD (HL+),A (R115)
  | inc_HL -- 0x23: INC HL (R193)
  | inc_H -- 0x24: INC H (R174)
  | dec_H -- 0x25: DEC H (R176)
  | ld_H_n8 (n : Byte) -- 0x26: LD H,n8 (R103)
  | daa -- 0x27: DAA (R178)
  | jr_Z_e8 (e : Byte) -- 0x28: JR Z,e8 (R255)
  | add_HL_HL -- 0x29: ADD HL,HL (R192)
  | ld_A_mHLi -- 0x2A: LD A,(HL+) (R117)
  | dec_HL -- 0x2B: DEC HL (R194)
  | inc_L -- 0x2C: INC L (R174)
  | dec_L -- 0x2D: DEC L (R176)
  | ld_L_n8 (n : Byte) -- 0x2E: LD L,n8 (R103)
  | cpl -- 0x2F: CPL (R179)
  | jr_NC_e8 (e : Byte) -- 0x30: JR NC,e8 (R255)
  | ld_SP_n16 (n : Word) -- 0x31: LD SP,n16 (R120)
  | ld_mHLd_A -- 0x32: LD (HL-),A (R116)
  | inc_SP -- 0x33: INC SP (R193)
  | inc_mHL -- 0x34: INC (HL) (R175)
  | dec_mHL -- 0x35: DEC (HL) (R177)
  | ld_mHL_n8 (n : Byte) -- 0x36: LD (HL),n8 (R104)
  | scf -- 0x37: SCF (R180)
  | jr_C_e8 (e : Byte) -- 0x38: JR C,e8 (R255)
  | add_HL_SP -- 0x39: ADD HL,SP (R192)
  | ld_A_mHLd -- 0x3A: LD A,(HL-) (R118)
  | dec_SP -- 0x3B: DEC SP (R194)
  | inc_A -- 0x3C: INC A (R174)
  | dec_A -- 0x3D: DEC A (R176)
  | ld_A_n8 (n : Byte) -- 0x3E: LD A,n8 (R103)
  | ccf -- 0x3F: CCF (R181)
  | ld_B_B -- 0x40: LD B,B (R100)
  | ld_B_C -- 0x41: LD B,C (R100)
  | ld_B_D -- 0x42: LD B,D (R100)
  | ld_B_E -- 0x43: LD B,E (R100)
  | ld_B_H -- 0x44: LD B,H (R100)
  | ld_B_L -- 0x45: LD B,L (R100)
  | ld_B_mHL -- 0x46: LD B,(HL) (R101)
  | ld_B_A -- 0x47: LD B,A (R100)
  | ld_C_B -- 0x48: LD C,B (R100)
  | ld_C_C -- 0x49: LD C,C (R100)
  | ld_C_D -- 0x4A: LD C,D (R100)
  | ld_C_E -- 0x4B: LD C,E (R100)
  | ld_C_H -- 0x4C: LD C,H (R100)
  | ld_C_L -- 0x4D: LD C,L (R100)
  | ld_C_mHL -- 0x4E: LD C,(HL) (R101)
  | ld_C_A -- 0x4F: LD C,A (R100)
  | ld_D_B -- 0x50: LD D,B (R100)
  | ld_D_C -- 0x51: LD D,C (R100)
  | ld_D_D -- 0x52: LD D,D (R100)
  | ld_D_E -- 0x53: LD D,E (R100)
  | ld_D_H -- 0x54: LD D,H (R100)
  | ld_D_L -- 0x55: LD D,L (R100)
  | ld_D_mHL -- 0x56: LD D,(HL) (R101)
  | ld_D_A -- 0x57: LD D,A (R100)
  | ld_E_B -- 0x58: LD E,B (R100)
  | ld_E_C -- 0x59: LD E,C (R100)
  | ld_E_D -- 0x5A: LD E,D (R100)
  | ld_E_E -- 0x5B: LD E,E (R100)
  | ld_E_H -- 0x5C: LD E,H (R100)
  | ld_E_L -- 0x5D: LD E,L (R100)
  | ld_E_mHL -- 0x5E: LD E,(HL) (R101)
  | ld_E_A -- 0x5F: LD E,A (R100)
  | ld_H_B -- 0x60: LD H,B (R100)
  | ld_H_C -- 0x61: LD H,C (R100)
  | ld_H_D -- 0x62: LD H,D (R100)
  | ld_H_E -- 0x63: LD H,E (R100)
  | ld_H_H -- 0x64: LD H,H (R100)
  | ld_H_L -- 0x65: LD H,L (R100)
  | ld_H_mHL -- 0x66: LD H,(HL) (R101)
  | ld_H_A -- 0x67: LD H,A (R100)
  | ld_L_B -- 0x68: LD L,B (R100)
  | ld_L_C -- 0x69: LD L,C (R100)
  | ld_L_D -- 0x6A: LD L,D (R100)
  | ld_L_E -- 0x6B: LD L,E (R100)
  | ld_L_H -- 0x6C: LD L,H (R100)
  | ld_L_L -- 0x6D: LD L,L (R100)
  | ld_L_mHL -- 0x6E: LD L,(HL) (R101)
  | ld_L_A -- 0x6F: LD L,A (R100)
  | ld_mHL_B -- 0x70: LD (HL),B (R102)
  | ld_mHL_C -- 0x71: LD (HL),C (R102)
  | ld_mHL_D -- 0x72: LD (HL),D (R102)
  | ld_mHL_E -- 0x73: LD (HL),E (R102)
  | ld_mHL_H -- 0x74: LD (HL),H (R102)
  | ld_mHL_L -- 0x75: LD (HL),L (R102)
  | halt -- 0x76: HALT (R271)
  | ld_mHL_A -- 0x77: LD (HL),A (R102)
  | ld_A_B -- 0x78: LD A,B (R100)
  | ld_A_C -- 0x79: LD A,C (R100)
  | ld_A_D -- 0x7A: LD A,D (R100)
  | ld_A_E -- 0x7B: LD A,E (R100)
  | ld_A_H -- 0x7C: LD A,H (R100)
  | ld_A_L -- 0x7D: LD A,L (R100)
  | ld_A_mHL -- 0x7E: LD A,(HL) (R101)
  | ld_A_A -- 0x7F: LD A,A (R100)
  | add_A_B -- 0x80: ADD A,B (R150)
  | add_A_C -- 0x81: ADD A,C (R150)
  | add_A_D -- 0x82: ADD A,D (R150)
  | add_A_E -- 0x83: ADD A,E (R150)
  | add_A_H -- 0x84: ADD A,H (R150)
  | add_A_L -- 0x85: ADD A,L (R150)
  | add_A_mHL -- 0x86: ADD A,(HL) (R151)
  | add_A_A -- 0x87: ADD A,A (R150)
  | adc_A_B -- 0x88: ADC A,B (R153)
  | adc_A_C -- 0x89: ADC A,C (R153)
  | adc_A_D -- 0x8A: ADC A,D (R153)
  | adc_A_E -- 0x8B: ADC A,E (R153)
  | adc_A_H -- 0x8C: ADC A,H (R153)
  | adc_A_L -- 0x8D: ADC A,L (R153)
  | adc_A_mHL -- 0x8E: ADC A,(HL) (R154)
  | adc_A_A -- 0x8F: ADC A,A (R153)
  | sub_B -- 0x90: SUB B (R156)
  | sub_C -- 0x91: SUB C (R156)
  | sub_D -- 0x92: SUB D (R156)
  | sub_E -- 0x93: SUB E (R156)
  | sub_H -- 0x94: SUB H (R156)
  | sub_L -- 0x95: SUB L (R156)
  | sub_mHL -- 0x96: SUB (HL) (R157)
  | sub_A -- 0x97: SUB A (R156)
  | sbc_A_B -- 0x98: SBC A,B (R159)
  | sbc_A_C -- 0x99: SBC A,C (R159)
  | sbc_A_D -- 0x9A: SBC A,D (R159)
  | sbc_A_E -- 0x9B: SBC A,E (R159)
  | sbc_A_H -- 0x9C: SBC A,H (R159)
  | sbc_A_L -- 0x9D: SBC A,L (R159)
  | sbc_A_mHL -- 0x9E: SBC A,(HL) (R160)
  | sbc_A_A -- 0x9F: SBC A,A (R159)
  | and_B -- 0xA0: AND B (R162)
  | and_C -- 0xA1: AND C (R162)
  | and_D -- 0xA2: AND D (R162)
  | and_E -- 0xA3: AND E (R162)
  | and_H -- 0xA4: AND H (R162)
  | and_L -- 0xA5: AND L (R162)
  | and_mHL -- 0xA6: AND (HL) (R163)
  | and_A -- 0xA7: AND A (R162)
  | xor_B -- 0xA8: XOR B (R165)
  | xor_C -- 0xA9: XOR C (R165)
  | xor_D -- 0xAA: XOR D (R165)
  | xor_E -- 0xAB: XOR E (R165)
  | xor_H -- 0xAC: XOR H (R165)
  | xor_L -- 0xAD: XOR L (R165)
  | xor_mHL -- 0xAE: XOR (HL) (R166)
  | xor_A -- 0xAF: XOR A (R165)
  | or_B -- 0xB0: OR B (R168)
  | or_C -- 0xB1: OR C (R168)
  | or_D -- 0xB2: OR D (R168)
  | or_E -- 0xB3: OR E (R168)
  | or_H -- 0xB4: OR H (R168)
  | or_L -- 0xB5: OR L (R168)
  | or_mHL -- 0xB6: OR (HL) (R169)
  | or_A -- 0xB7: OR A (R168)
  | cp_B -- 0xB8: CP B (R171)
  | cp_C -- 0xB9: CP C (R171)
  | cp_D -- 0xBA: CP D (R171)
  | cp_E -- 0xBB: CP E (R171)
  | cp_H -- 0xBC: CP H (R171)
  | cp_L -- 0xBD: CP L (R171)
  | cp_mHL -- 0xBE: CP (HL) (R172)
  | cp_A -- 0xBF: CP A (R171)
  | ret_NZ -- 0xC0: RET NZ (R259)
  | pop_BC -- 0xC1: POP BC (R125)
  | jp_NZ_a16 (n : Word) -- 0xC2: JP NZ,a16 (R252)
  | jp_a16 (n : Word) -- 0xC3: JP a16 (R251)
  | call_NZ_a16 (n : Word) -- 0xC4: CALL NZ,a16 (R257)
  | push_BC -- 0xC5: PUSH BC (R124)
  | add_A_n8 (n : Byte) -- 0xC6: ADD A,n8 (R152)
  | rst_00 -- 0xC7: RST 0x00 (R261)
  | ret_Z -- 0xC8: RET Z (R259)
  | ret -- 0xC9: RET (R258)
  | jp_Z_a16 (n : Word) -- 0xCA: JP Z,a16 (R252)
  | prefixCB (o : Byte) -- 0xCB: (prefix CB) (R84)
  | call_Z_a16 (n : Word) -- 0xCC: CALL Z,a16 (R257)
  | call_a16 (n : Word) -- 0xCD: CALL a16 (R256)
  | adc_A_n8 (n : Byte) -- 0xCE: ADC A,n8 (R155)
  | rst_08 -- 0xCF: RST 0x08 (R261)
  | ret_NC -- 0xD0: RET NC (R259)
  | pop_DE -- 0xD1: POP DE (R125)
  | jp_NC_a16 (n : Word) -- 0xD2: JP NC,a16 (R252)
  | call_NC_a16 (n : Word) -- 0xD4: CALL NC,a16 (R257)
  | push_DE -- 0xD5: PUSH DE (R124)
  | sub_n8 (n : Byte) -- 0xD6: SUB n8 (R158)
  | rst_10 -- 0xD7: RST 0x10 (R261)
  | ret_C -- 0xD8: RET C (R259)
  | reti -- 0xD9: RETI (R260)
  | jp_C_a16 (n : Word) -- 0xDA: JP C,a16 (R252)
  | call_C_a16 (n : Word) -- 0xDC: CALL C,a16 (R257)
  | sbc_A_n8 (n : Byte) -- 0xDE: SBC A,n8 (R161)
  | rst_18 -- 0xDF: RST 0x18 (R261)
  | ldh_ma8_A (n : Byte) -- 0xE0: LDH (a8),A (R112)
  | pop_HL -- 0xE1: POP HL (R125)
  | ld_mC_A -- 0xE2: LD (C),A (R114)
  | push_HL -- 0xE5: PUSH HL (R124)
  | and_n8 (n : Byte) -- 0xE6: AND n8 (R164)
  | rst_20 -- 0xE7: RST 0x20 (R261)
  | add_SP_e8 (e : Byte) -- 0xE8: ADD SP,e8 (R195)
  | jp_HL -- 0xE9: JP HL (R253)
  | ld_ma16_A (n : Word) -- 0xEA: LD (a16),A (R110)
  | xor_n8 (n : Byte) -- 0xEE: XOR n8 (R167)
  | rst_28 -- 0xEF: RST 0x28 (R261)
  | ldh_A_ma8 (n : Byte) -- 0xF0: LDH A,(a8) (R111)
  | pop_AF -- 0xF1: POP AF (R126)
  | ld_A_mC -- 0xF2: LD A,(C) (R113)
  | di -- 0xF3: DI (R273)
  | push_AF -- 0xF5: PUSH AF (R124)
  | or_n8 (n : Byte) -- 0xF6: OR n8 (R170)
  | rst_30 -- 0xF7: RST 0x30 (R261)
  | ld_HL_SP_e8 (e : Byte) -- 0xF8: LD HL,SP+e8 (R123)
  | ld_SP_HL -- 0xF9: LD SP,HL (R122)
  | ld_A_ma16 (n : Word) -- 0xFA: LD A,(a16) (R109)
  | ei -- 0xFB: EI (R274)
  | cp_n8 (n : Byte) -- 0xFE: CP n8 (R173)
  | rst_38 -- 0xFF: RST 0x38 (R261)
  | undefined_D3 -- 0xD3: (undefined 0xD3) (R275)
  | undefined_DB -- 0xDB: (undefined 0xDB) (R275)
  | undefined_DD -- 0xDD: (undefined 0xDD) (R275)
  | undefined_E3 -- 0xE3: (undefined 0xE3) (R275)
  | undefined_E4 -- 0xE4: (undefined 0xE4) (R275)
  | undefined_EB -- 0xEB: (undefined 0xEB) (R275)
  | undefined_EC -- 0xEC: (undefined 0xEC) (R275)
  | undefined_ED -- 0xED: (undefined 0xED) (R275)
  | undefined_F4 -- 0xF4: (undefined 0xF4) (R275)
  | undefined_FC -- 0xFC: (undefined 0xFC) (R275)
  | undefined_FD -- 0xFD: (undefined 0xFD) (R275)
  | rlc_B -- 0xCB 0x00: RLC B (R214)
  | rlc_C -- 0xCB 0x01: RLC C (R214)
  | rlc_D -- 0xCB 0x02: RLC D (R214)
  | rlc_E -- 0xCB 0x03: RLC E (R214)
  | rlc_H -- 0xCB 0x04: RLC H (R214)
  | rlc_L -- 0xCB 0x05: RLC L (R214)
  | rlc_mHL -- 0xCB 0x06: RLC (HL) (R215)
  | rlc_A -- 0xCB 0x07: RLC A (R214)
  | rrc_B -- 0xCB 0x08: RRC B (R216)
  | rrc_C -- 0xCB 0x09: RRC C (R216)
  | rrc_D -- 0xCB 0x0A: RRC D (R216)
  | rrc_E -- 0xCB 0x0B: RRC E (R216)
  | rrc_H -- 0xCB 0x0C: RRC H (R216)
  | rrc_L -- 0xCB 0x0D: RRC L (R216)
  | rrc_mHL -- 0xCB 0x0E: RRC (HL) (R217)
  | rrc_A -- 0xCB 0x0F: RRC A (R216)
  | rl_B -- 0xCB 0x10: RL B (R218)
  | rl_C -- 0xCB 0x11: RL C (R218)
  | rl_D -- 0xCB 0x12: RL D (R218)
  | rl_E -- 0xCB 0x13: RL E (R218)
  | rl_H -- 0xCB 0x14: RL H (R218)
  | rl_L -- 0xCB 0x15: RL L (R218)
  | rl_mHL -- 0xCB 0x16: RL (HL) (R219)
  | rl_A -- 0xCB 0x17: RL A (R218)
  | rr_B -- 0xCB 0x18: RR B (R220)
  | rr_C -- 0xCB 0x19: RR C (R220)
  | rr_D -- 0xCB 0x1A: RR D (R220)
  | rr_E -- 0xCB 0x1B: RR E (R220)
  | rr_H -- 0xCB 0x1C: RR H (R220)
  | rr_L -- 0xCB 0x1D: RR L (R220)
  | rr_mHL -- 0xCB 0x1E: RR (HL) (R221)
  | rr_A -- 0xCB 0x1F: RR A (R220)
  | sla_B -- 0xCB 0x20: SLA B (R222)
  | sla_C -- 0xCB 0x21: SLA C (R222)
  | sla_D -- 0xCB 0x22: SLA D (R222)
  | sla_E -- 0xCB 0x23: SLA E (R222)
  | sla_H -- 0xCB 0x24: SLA H (R222)
  | sla_L -- 0xCB 0x25: SLA L (R222)
  | sla_mHL -- 0xCB 0x26: SLA (HL) (R223)
  | sla_A -- 0xCB 0x27: SLA A (R222)
  | sra_B -- 0xCB 0x28: SRA B (R224)
  | sra_C -- 0xCB 0x29: SRA C (R224)
  | sra_D -- 0xCB 0x2A: SRA D (R224)
  | sra_E -- 0xCB 0x2B: SRA E (R224)
  | sra_H -- 0xCB 0x2C: SRA H (R224)
  | sra_L -- 0xCB 0x2D: SRA L (R224)
  | sra_mHL -- 0xCB 0x2E: SRA (HL) (R225)
  | sra_A -- 0xCB 0x2F: SRA A (R224)
  | swap_B -- 0xCB 0x30: SWAP B (R226)
  | swap_C -- 0xCB 0x31: SWAP C (R226)
  | swap_D -- 0xCB 0x32: SWAP D (R226)
  | swap_E -- 0xCB 0x33: SWAP E (R226)
  | swap_H -- 0xCB 0x34: SWAP H (R226)
  | swap_L -- 0xCB 0x35: SWAP L (R226)
  | swap_mHL -- 0xCB 0x36: SWAP (HL) (R227)
  | swap_A -- 0xCB 0x37: SWAP A (R226)
  | srl_B -- 0xCB 0x38: SRL B (R228)
  | srl_C -- 0xCB 0x39: SRL C (R228)
  | srl_D -- 0xCB 0x3A: SRL D (R228)
  | srl_E -- 0xCB 0x3B: SRL E (R228)
  | srl_H -- 0xCB 0x3C: SRL H (R228)
  | srl_L -- 0xCB 0x3D: SRL L (R228)
  | srl_mHL -- 0xCB 0x3E: SRL (HL) (R229)
  | srl_A -- 0xCB 0x3F: SRL A (R228)
  | bit_0_B -- 0xCB 0x40: BIT 0,B (R240)
  | bit_0_C -- 0xCB 0x41: BIT 0,C (R240)
  | bit_0_D -- 0xCB 0x42: BIT 0,D (R240)
  | bit_0_E -- 0xCB 0x43: BIT 0,E (R240)
  | bit_0_H -- 0xCB 0x44: BIT 0,H (R240)
  | bit_0_L -- 0xCB 0x45: BIT 0,L (R240)
  | bit_0_mHL -- 0xCB 0x46: BIT 0,(HL) (R241)
  | bit_0_A -- 0xCB 0x47: BIT 0,A (R240)
  | bit_1_B -- 0xCB 0x48: BIT 1,B (R240)
  | bit_1_C -- 0xCB 0x49: BIT 1,C (R240)
  | bit_1_D -- 0xCB 0x4A: BIT 1,D (R240)
  | bit_1_E -- 0xCB 0x4B: BIT 1,E (R240)
  | bit_1_H -- 0xCB 0x4C: BIT 1,H (R240)
  | bit_1_L -- 0xCB 0x4D: BIT 1,L (R240)
  | bit_1_mHL -- 0xCB 0x4E: BIT 1,(HL) (R241)
  | bit_1_A -- 0xCB 0x4F: BIT 1,A (R240)
  | bit_2_B -- 0xCB 0x50: BIT 2,B (R240)
  | bit_2_C -- 0xCB 0x51: BIT 2,C (R240)
  | bit_2_D -- 0xCB 0x52: BIT 2,D (R240)
  | bit_2_E -- 0xCB 0x53: BIT 2,E (R240)
  | bit_2_H -- 0xCB 0x54: BIT 2,H (R240)
  | bit_2_L -- 0xCB 0x55: BIT 2,L (R240)
  | bit_2_mHL -- 0xCB 0x56: BIT 2,(HL) (R241)
  | bit_2_A -- 0xCB 0x57: BIT 2,A (R240)
  | bit_3_B -- 0xCB 0x58: BIT 3,B (R240)
  | bit_3_C -- 0xCB 0x59: BIT 3,C (R240)
  | bit_3_D -- 0xCB 0x5A: BIT 3,D (R240)
  | bit_3_E -- 0xCB 0x5B: BIT 3,E (R240)
  | bit_3_H -- 0xCB 0x5C: BIT 3,H (R240)
  | bit_3_L -- 0xCB 0x5D: BIT 3,L (R240)
  | bit_3_mHL -- 0xCB 0x5E: BIT 3,(HL) (R241)
  | bit_3_A -- 0xCB 0x5F: BIT 3,A (R240)
  | bit_4_B -- 0xCB 0x60: BIT 4,B (R240)
  | bit_4_C -- 0xCB 0x61: BIT 4,C (R240)
  | bit_4_D -- 0xCB 0x62: BIT 4,D (R240)
  | bit_4_E -- 0xCB 0x63: BIT 4,E (R240)
  | bit_4_H -- 0xCB 0x64: BIT 4,H (R240)
  | bit_4_L -- 0xCB 0x65: BIT 4,L (R240)
  | bit_4_mHL -- 0xCB 0x66: BIT 4,(HL) (R241)
  | bit_4_A -- 0xCB 0x67: BIT 4,A (R240)
  | bit_5_B -- 0xCB 0x68: BIT 5,B (R240)
  | bit_5_C -- 0xCB 0x69: BIT 5,C (R240)
  | bit_5_D -- 0xCB 0x6A: BIT 5,D (R240)
  | bit_5_E -- 0xCB 0x6B: BIT 5,E (R240)
  | bit_5_H -- 0xCB 0x6C: BIT 5,H (R240)
  | bit_5_L -- 0xCB 0x6D: BIT 5,L (R240)
  | bit_5_mHL -- 0xCB 0x6E: BIT 5,(HL) (R241)
  | bit_5_A -- 0xCB 0x6F: BIT 5,A (R240)
  | bit_6_B -- 0xCB 0x70: BIT 6,B (R240)
  | bit_6_C -- 0xCB 0x71: BIT 6,C (R240)
  | bit_6_D -- 0xCB 0x72: BIT 6,D (R240)
  | bit_6_E -- 0xCB 0x73: BIT 6,E (R240)
  | bit_6_H -- 0xCB 0x74: BIT 6,H (R240)
  | bit_6_L -- 0xCB 0x75: BIT 6,L (R240)
  | bit_6_mHL -- 0xCB 0x76: BIT 6,(HL) (R241)
  | bit_6_A -- 0xCB 0x77: BIT 6,A (R240)
  | bit_7_B -- 0xCB 0x78: BIT 7,B (R240)
  | bit_7_C -- 0xCB 0x79: BIT 7,C (R240)
  | bit_7_D -- 0xCB 0x7A: BIT 7,D (R240)
  | bit_7_E -- 0xCB 0x7B: BIT 7,E (R240)
  | bit_7_H -- 0xCB 0x7C: BIT 7,H (R240)
  | bit_7_L -- 0xCB 0x7D: BIT 7,L (R240)
  | bit_7_mHL -- 0xCB 0x7E: BIT 7,(HL) (R241)
  | bit_7_A -- 0xCB 0x7F: BIT 7,A (R240)
  | res_0_B -- 0xCB 0x80: RES 0,B (R242)
  | res_0_C -- 0xCB 0x81: RES 0,C (R242)
  | res_0_D -- 0xCB 0x82: RES 0,D (R242)
  | res_0_E -- 0xCB 0x83: RES 0,E (R242)
  | res_0_H -- 0xCB 0x84: RES 0,H (R242)
  | res_0_L -- 0xCB 0x85: RES 0,L (R242)
  | res_0_mHL -- 0xCB 0x86: RES 0,(HL) (R243)
  | res_0_A -- 0xCB 0x87: RES 0,A (R242)
  | res_1_B -- 0xCB 0x88: RES 1,B (R242)
  | res_1_C -- 0xCB 0x89: RES 1,C (R242)
  | res_1_D -- 0xCB 0x8A: RES 1,D (R242)
  | res_1_E -- 0xCB 0x8B: RES 1,E (R242)
  | res_1_H -- 0xCB 0x8C: RES 1,H (R242)
  | res_1_L -- 0xCB 0x8D: RES 1,L (R242)
  | res_1_mHL -- 0xCB 0x8E: RES 1,(HL) (R243)
  | res_1_A -- 0xCB 0x8F: RES 1,A (R242)
  | res_2_B -- 0xCB 0x90: RES 2,B (R242)
  | res_2_C -- 0xCB 0x91: RES 2,C (R242)
  | res_2_D -- 0xCB 0x92: RES 2,D (R242)
  | res_2_E -- 0xCB 0x93: RES 2,E (R242)
  | res_2_H -- 0xCB 0x94: RES 2,H (R242)
  | res_2_L -- 0xCB 0x95: RES 2,L (R242)
  | res_2_mHL -- 0xCB 0x96: RES 2,(HL) (R243)
  | res_2_A -- 0xCB 0x97: RES 2,A (R242)
  | res_3_B -- 0xCB 0x98: RES 3,B (R242)
  | res_3_C -- 0xCB 0x99: RES 3,C (R242)
  | res_3_D -- 0xCB 0x9A: RES 3,D (R242)
  | res_3_E -- 0xCB 0x9B: RES 3,E (R242)
  | res_3_H -- 0xCB 0x9C: RES 3,H (R242)
  | res_3_L -- 0xCB 0x9D: RES 3,L (R242)
  | res_3_mHL -- 0xCB 0x9E: RES 3,(HL) (R243)
  | res_3_A -- 0xCB 0x9F: RES 3,A (R242)
  | res_4_B -- 0xCB 0xA0: RES 4,B (R242)
  | res_4_C -- 0xCB 0xA1: RES 4,C (R242)
  | res_4_D -- 0xCB 0xA2: RES 4,D (R242)
  | res_4_E -- 0xCB 0xA3: RES 4,E (R242)
  | res_4_H -- 0xCB 0xA4: RES 4,H (R242)
  | res_4_L -- 0xCB 0xA5: RES 4,L (R242)
  | res_4_mHL -- 0xCB 0xA6: RES 4,(HL) (R243)
  | res_4_A -- 0xCB 0xA7: RES 4,A (R242)
  | res_5_B -- 0xCB 0xA8: RES 5,B (R242)
  | res_5_C -- 0xCB 0xA9: RES 5,C (R242)
  | res_5_D -- 0xCB 0xAA: RES 5,D (R242)
  | res_5_E -- 0xCB 0xAB: RES 5,E (R242)
  | res_5_H -- 0xCB 0xAC: RES 5,H (R242)
  | res_5_L -- 0xCB 0xAD: RES 5,L (R242)
  | res_5_mHL -- 0xCB 0xAE: RES 5,(HL) (R243)
  | res_5_A -- 0xCB 0xAF: RES 5,A (R242)
  | res_6_B -- 0xCB 0xB0: RES 6,B (R242)
  | res_6_C -- 0xCB 0xB1: RES 6,C (R242)
  | res_6_D -- 0xCB 0xB2: RES 6,D (R242)
  | res_6_E -- 0xCB 0xB3: RES 6,E (R242)
  | res_6_H -- 0xCB 0xB4: RES 6,H (R242)
  | res_6_L -- 0xCB 0xB5: RES 6,L (R242)
  | res_6_mHL -- 0xCB 0xB6: RES 6,(HL) (R243)
  | res_6_A -- 0xCB 0xB7: RES 6,A (R242)
  | res_7_B -- 0xCB 0xB8: RES 7,B (R242)
  | res_7_C -- 0xCB 0xB9: RES 7,C (R242)
  | res_7_D -- 0xCB 0xBA: RES 7,D (R242)
  | res_7_E -- 0xCB 0xBB: RES 7,E (R242)
  | res_7_H -- 0xCB 0xBC: RES 7,H (R242)
  | res_7_L -- 0xCB 0xBD: RES 7,L (R242)
  | res_7_mHL -- 0xCB 0xBE: RES 7,(HL) (R243)
  | res_7_A -- 0xCB 0xBF: RES 7,A (R242)
  | set_0_B -- 0xCB 0xC0: SET 0,B (R244)
  | set_0_C -- 0xCB 0xC1: SET 0,C (R244)
  | set_0_D -- 0xCB 0xC2: SET 0,D (R244)
  | set_0_E -- 0xCB 0xC3: SET 0,E (R244)
  | set_0_H -- 0xCB 0xC4: SET 0,H (R244)
  | set_0_L -- 0xCB 0xC5: SET 0,L (R244)
  | set_0_mHL -- 0xCB 0xC6: SET 0,(HL) (R245)
  | set_0_A -- 0xCB 0xC7: SET 0,A (R244)
  | set_1_B -- 0xCB 0xC8: SET 1,B (R244)
  | set_1_C -- 0xCB 0xC9: SET 1,C (R244)
  | set_1_D -- 0xCB 0xCA: SET 1,D (R244)
  | set_1_E -- 0xCB 0xCB: SET 1,E (R244)
  | set_1_H -- 0xCB 0xCC: SET 1,H (R244)
  | set_1_L -- 0xCB 0xCD: SET 1,L (R244)
  | set_1_mHL -- 0xCB 0xCE: SET 1,(HL) (R245)
  | set_1_A -- 0xCB 0xCF: SET 1,A (R244)
  | set_2_B -- 0xCB 0xD0: SET 2,B (R244)
  | set_2_C -- 0xCB 0xD1: SET 2,C (R244)
  | set_2_D -- 0xCB 0xD2: SET 2,D (R244)
  | set_2_E -- 0xCB 0xD3: SET 2,E (R244)
  | set_2_H -- 0xCB 0xD4: SET 2,H (R244)
  | set_2_L -- 0xCB 0xD5: SET 2,L (R244)
  | set_2_mHL -- 0xCB 0xD6: SET 2,(HL) (R245)
  | set_2_A -- 0xCB 0xD7: SET 2,A (R244)
  | set_3_B -- 0xCB 0xD8: SET 3,B (R244)
  | set_3_C -- 0xCB 0xD9: SET 3,C (R244)
  | set_3_D -- 0xCB 0xDA: SET 3,D (R244)
  | set_3_E -- 0xCB 0xDB: SET 3,E (R244)
  | set_3_H -- 0xCB 0xDC: SET 3,H (R244)
  | set_3_L -- 0xCB 0xDD: SET 3,L (R244)
  | set_3_mHL -- 0xCB 0xDE: SET 3,(HL) (R245)
  | set_3_A -- 0xCB 0xDF: SET 3,A (R244)
  | set_4_B -- 0xCB 0xE0: SET 4,B (R244)
  | set_4_C -- 0xCB 0xE1: SET 4,C (R244)
  | set_4_D -- 0xCB 0xE2: SET 4,D (R244)
  | set_4_E -- 0xCB 0xE3: SET 4,E (R244)
  | set_4_H -- 0xCB 0xE4: SET 4,H (R244)
  | set_4_L -- 0xCB 0xE5: SET 4,L (R244)
  | set_4_mHL -- 0xCB 0xE6: SET 4,(HL) (R245)
  | set_4_A -- 0xCB 0xE7: SET 4,A (R244)
  | set_5_B -- 0xCB 0xE8: SET 5,B (R244)
  | set_5_C -- 0xCB 0xE9: SET 5,C (R244)
  | set_5_D -- 0xCB 0xEA: SET 5,D (R244)
  | set_5_E -- 0xCB 0xEB: SET 5,E (R244)
  | set_5_H -- 0xCB 0xEC: SET 5,H (R244)
  | set_5_L -- 0xCB 0xED: SET 5,L (R244)
  | set_5_mHL -- 0xCB 0xEE: SET 5,(HL) (R245)
  | set_5_A -- 0xCB 0xEF: SET 5,A (R244)
  | set_6_B -- 0xCB 0xF0: SET 6,B (R244)
  | set_6_C -- 0xCB 0xF1: SET 6,C (R244)
  | set_6_D -- 0xCB 0xF2: SET 6,D (R244)
  | set_6_E -- 0xCB 0xF3: SET 6,E (R244)
  | set_6_H -- 0xCB 0xF4: SET 6,H (R244)
  | set_6_L -- 0xCB 0xF5: SET 6,L (R244)
  | set_6_mHL -- 0xCB 0xF6: SET 6,(HL) (R245)
  | set_6_A -- 0xCB 0xF7: SET 6,A (R244)
  | set_7_B -- 0xCB 0xF8: SET 7,B (R244)
  | set_7_C -- 0xCB 0xF9: SET 7,C (R244)
  | set_7_D -- 0xCB 0xFA: SET 7,D (R244)
  | set_7_E -- 0xCB 0xFB: SET 7,E (R244)
  | set_7_H -- 0xCB 0xFC: SET 7,H (R244)
  | set_7_L -- 0xCB 0xFD: SET 7,L (R244)
  | set_7_mHL -- 0xCB 0xFE: SET 7,(HL) (R245)
  | set_7_A -- 0xCB 0xFF: SET 7,A (R244)
  deriving DecidableEq, Repr

end Sys2Proof
end

