-- ==== Sys2Proof/WellFormed.lean ====
section
/-! DEFINITION. Which terms of `Instr` are instructions. Operand widths are carried by the types, so the one check is on
the prefix. -/

namespace Sys2Proof

/-- The row `(prefix CB)` of the table is no instruction of its own (R84: "The byte 0xCB is a prefix, not an
instruction"; R92). Every other constructor is an instruction at every operand value. -/
def Instr.isPrefixRow : Instr → Bool
  | .prefixCB _ => true
  | _ => false

/-- A well-formed instruction: any constructor but the prefix row. -/
def Instr.wf (i : Instr) : Bool := !i.isPrefixRow

end Sys2Proof
end

