-- ==== Sys2Proof/Decode.lean ====
section
/-! DEFINITION. The two dispatch tables of spec/30_encoding.md (R86, R88, R89), the decoder over them, total on any bytes,
and the encoder. -/

namespace Sys2Proof

/-! ### Bytes and words -/

/-- `hi ∥ lo` (R8): a word from its bytes. -/
def joinWord (hi lo : Byte) : Word := hi ++ lo

/-- `w[7:0]`. -/
def loByte (w : Word) : Byte := w.extractLsb' 0 8

/-- `w[15:8]`. -/
def hiByte (w : Word) : Byte := w.extractLsb' 8 8

/-- `zext_16(b)` (R8). -/
def zext16 (b : Byte) : Word := b.setWidth 16

/-- `sext_16(b)` (R8). -/
def sext16 (b : Byte) : Word := b.signExtend 16

/-! ### The dispatch tables -/

/-- An entry of the base table by the operand bytes it takes (R80, R83): none, one byte, or a word stored low byte
first. -/
inductive Entry where
  | plain (i : Instr)
  | withByte (f : Byte → Instr)
  | withWord (f : Word → Instr)

/-- The cell of a table written as 16 rows of 16, at a byte: row is the high nibble, column the low one. -/
def tableCell {α : Type} (rows : List (List α)) (dflt : α) (op : Byte) : α :=
  (rows.getD (op.toNat / 16) []).getD (op.toNat % 16) dflt

/-! The CB table, one definition a row of R89's map. -/

/-- CB row 00 (R89). -/
def cbRow0 : List Instr :=
  [.rlc_B, .rlc_C, .rlc_D, .rlc_E, .rlc_H, .rlc_L, .rlc_mHL, .rlc_A, .rrc_B, .rrc_C, .rrc_D, .rrc_E, .rrc_H, .rrc_L,
   .rrc_mHL, .rrc_A]

/-- CB row 10 (R89). -/
def cbRow1 : List Instr :=
  [.rl_B, .rl_C, .rl_D, .rl_E, .rl_H, .rl_L, .rl_mHL, .rl_A, .rr_B, .rr_C, .rr_D, .rr_E, .rr_H, .rr_L, .rr_mHL, .rr_A]

/-- CB row 20 (R89). -/
def cbRow2 : List Instr :=
  [.sla_B, .sla_C, .sla_D, .sla_E, .sla_H, .sla_L, .sla_mHL, .sla_A, .sra_B, .sra_C, .sra_D, .sra_E, .sra_H, .sra_L,
   .sra_mHL, .sra_A]

/-- CB row 30 (R89). -/
def cbRow3 : List Instr :=
  [.swap_B, .swap_C, .swap_D, .swap_E, .swap_H, .swap_L, .swap_mHL, .swap_A, .srl_B, .srl_C, .srl_D, .srl_E, .srl_H,
   .srl_L, .srl_mHL, .srl_A]

/-- CB row 40 (R89). -/
def cbRow4 : List Instr :=
  [.bit_0_B, .bit_0_C, .bit_0_D, .bit_0_E, .bit_0_H, .bit_0_L, .bit_0_mHL, .bit_0_A, .bit_1_B, .bit_1_C, .bit_1_D,
   .bit_1_E, .bit_1_H, .bit_1_L, .bit_1_mHL, .bit_1_A]

/-- CB row 50 (R89). -/
def cbRow5 : List Instr :=
  [.bit_2_B, .bit_2_C, .bit_2_D, .bit_2_E, .bit_2_H, .bit_2_L, .bit_2_mHL, .bit_2_A, .bit_3_B, .bit_3_C, .bit_3_D,
   .bit_3_E, .bit_3_H, .bit_3_L, .bit_3_mHL, .bit_3_A]

/-- CB row 60 (R89). -/
def cbRow6 : List Instr :=
  [.bit_4_B, .bit_4_C, .bit_4_D, .bit_4_E, .bit_4_H, .bit_4_L, .bit_4_mHL, .bit_4_A, .bit_5_B, .bit_5_C, .bit_5_D,
   .bit_5_E, .bit_5_H, .bit_5_L, .bit_5_mHL, .bit_5_A]

/-- CB row 70 (R89). -/
def cbRow7 : List Instr :=
  [.bit_6_B, .bit_6_C, .bit_6_D, .bit_6_E, .bit_6_H, .bit_6_L, .bit_6_mHL, .bit_6_A, .bit_7_B, .bit_7_C, .bit_7_D,
   .bit_7_E, .bit_7_H, .bit_7_L, .bit_7_mHL, .bit_7_A]

/-- CB row 80 (R89). -/
def cbRow8 : List Instr :=
  [.res_0_B, .res_0_C, .res_0_D, .res_0_E, .res_0_H, .res_0_L, .res_0_mHL, .res_0_A, .res_1_B, .res_1_C, .res_1_D,
   .res_1_E, .res_1_H, .res_1_L, .res_1_mHL, .res_1_A]

/-- CB row 90 (R89). -/
def cbRow9 : List Instr :=
  [.res_2_B, .res_2_C, .res_2_D, .res_2_E, .res_2_H, .res_2_L, .res_2_mHL, .res_2_A, .res_3_B, .res_3_C, .res_3_D,
   .res_3_E, .res_3_H, .res_3_L, .res_3_mHL, .res_3_A]

/-- CB row A0 (R89). -/
def cbRowA : List Instr :=
  [.res_4_B, .res_4_C, .res_4_D, .res_4_E, .res_4_H, .res_4_L, .res_4_mHL, .res_4_A, .res_5_B, .res_5_C, .res_5_D,
   .res_5_E, .res_5_H, .res_5_L, .res_5_mHL, .res_5_A]

/-- CB row B0 (R89). -/
def cbRowB : List Instr :=
  [.res_6_B, .res_6_C, .res_6_D, .res_6_E, .res_6_H, .res_6_L, .res_6_mHL, .res_6_A, .res_7_B, .res_7_C, .res_7_D,
   .res_7_E, .res_7_H, .res_7_L, .res_7_mHL, .res_7_A]

/-- CB row C0 (R89). -/
def cbRowC : List Instr :=
  [.set_0_B, .set_0_C, .set_0_D, .set_0_E, .set_0_H, .set_0_L, .set_0_mHL, .set_0_A, .set_1_B, .set_1_C, .set_1_D,
   .set_1_E, .set_1_H, .set_1_L, .set_1_mHL, .set_1_A]

/-- CB row D0 (R89). -/
def cbRowD : List Instr :=
  [.set_2_B, .set_2_C, .set_2_D, .set_2_E, .set_2_H, .set_2_L, .set_2_mHL, .set_2_A, .set_3_B, .set_3_C, .set_3_D,
   .set_3_E, .set_3_H, .set_3_L, .set_3_mHL, .set_3_A]

/-- CB row E0 (R89). -/
def cbRowE : List Instr :=
  [.set_4_B, .set_4_C, .set_4_D, .set_4_E, .set_4_H, .set_4_L, .set_4_mHL, .set_4_A, .set_5_B, .set_5_C, .set_5_D,
   .set_5_E, .set_5_H, .set_5_L, .set_5_mHL, .set_5_A]

/-- CB row F0 (R89). -/
def cbRowF : List Instr :=
  [.set_6_B, .set_6_C, .set_6_D, .set_6_E, .set_6_H, .set_6_L, .set_6_mHL, .set_6_A, .set_7_B, .set_7_C, .set_7_D,
   .set_7_E, .set_7_H, .set_7_L, .set_7_mHL, .set_7_A]

/-- The CB table (R89). -/
def cbTable : List (List Instr) :=
  [cbRow0, cbRow1, cbRow2, cbRow3, cbRow4, cbRow5, cbRow6, cbRow7,
   cbRow8, cbRow9, cbRowA, cbRowB, cbRowC, cbRowD, cbRowE, cbRowF]

/-- `CB[o]` (R85, R89). -/
def cbInstr (o : Byte) : Instr := tableCell cbTable .nop o

/-! The base table, one definition a row of R88's map; entry 0xCB is the prefix (R84). -/

/-- Base row 00 (R88). -/
def baseRow0 : List Entry :=
  [.plain .nop, .withWord .ld_BC_n16, .plain .ld_mBC_A, .plain .inc_BC, .plain .inc_B, .plain .dec_B,
   .withByte .ld_B_n8, .plain .rlca, .withWord .ld_ma16_SP, .plain .add_HL_BC, .plain .ld_A_mBC, .plain .dec_BC,
   .plain .inc_C, .plain .dec_C, .withByte .ld_C_n8, .plain .rrca]

/-- Base row 10 (R88). -/
def baseRow1 : List Entry :=
  [.withByte .stop, .withWord .ld_DE_n16, .plain .ld_mDE_A, .plain .inc_DE, .plain .inc_D, .plain .dec_D,
   .withByte .ld_D_n8, .plain .rla, .withByte .jr_e8, .plain .add_HL_DE, .plain .ld_A_mDE, .plain .dec_DE,
   .plain .inc_E, .plain .dec_E, .withByte .ld_E_n8, .plain .rra]

/-- Base row 20 (R88). -/
def baseRow2 : List Entry :=
  [.withByte .jr_NZ_e8, .withWord .ld_HL_n16, .plain .ld_mHLi_A, .plain .inc_HL, .plain .inc_H, .plain .dec_H,
   .withByte .ld_H_n8, .plain .daa, .withByte .jr_Z_e8, .plain .add_HL_HL, .plain .ld_A_mHLi, .plain .dec_HL,
   .plain .inc_L, .plain .dec_L, .withByte .ld_L_n8, .plain .cpl]

/-- Base row 30 (R88). -/
def baseRow3 : List Entry :=
  [.withByte .jr_NC_e8, .withWord .ld_SP_n16, .plain .ld_mHLd_A, .plain .inc_SP, .plain .inc_mHL, .plain .dec_mHL,
   .withByte .ld_mHL_n8, .plain .scf, .withByte .jr_C_e8, .plain .add_HL_SP, .plain .ld_A_mHLd, .plain .dec_SP,
   .plain .inc_A, .plain .dec_A, .withByte .ld_A_n8, .plain .ccf]

/-- Base row 40 (R88). -/
def baseRow4 : List Entry :=
  [.plain .ld_B_B, .plain .ld_B_C, .plain .ld_B_D, .plain .ld_B_E, .plain .ld_B_H, .plain .ld_B_L, .plain .ld_B_mHL,
   .plain .ld_B_A, .plain .ld_C_B, .plain .ld_C_C, .plain .ld_C_D, .plain .ld_C_E, .plain .ld_C_H, .plain .ld_C_L,
   .plain .ld_C_mHL, .plain .ld_C_A]

/-- Base row 50 (R88). -/
def baseRow5 : List Entry :=
  [.plain .ld_D_B, .plain .ld_D_C, .plain .ld_D_D, .plain .ld_D_E, .plain .ld_D_H, .plain .ld_D_L, .plain .ld_D_mHL,
   .plain .ld_D_A, .plain .ld_E_B, .plain .ld_E_C, .plain .ld_E_D, .plain .ld_E_E, .plain .ld_E_H, .plain .ld_E_L,
   .plain .ld_E_mHL, .plain .ld_E_A]

/-- Base row 60 (R88). -/
def baseRow6 : List Entry :=
  [.plain .ld_H_B, .plain .ld_H_C, .plain .ld_H_D, .plain .ld_H_E, .plain .ld_H_H, .plain .ld_H_L, .plain .ld_H_mHL,
   .plain .ld_H_A, .plain .ld_L_B, .plain .ld_L_C, .plain .ld_L_D, .plain .ld_L_E, .plain .ld_L_H, .plain .ld_L_L,
   .plain .ld_L_mHL, .plain .ld_L_A]

/-- Base row 70 (R88). -/
def baseRow7 : List Entry :=
  [.plain .ld_mHL_B, .plain .ld_mHL_C, .plain .ld_mHL_D, .plain .ld_mHL_E, .plain .ld_mHL_H, .plain .ld_mHL_L,
   .plain .halt, .plain .ld_mHL_A, .plain .ld_A_B, .plain .ld_A_C, .plain .ld_A_D, .plain .ld_A_E, .plain .ld_A_H,
   .plain .ld_A_L, .plain .ld_A_mHL, .plain .ld_A_A]

/-- Base row 80 (R88). -/
def baseRow8 : List Entry :=
  [.plain .add_A_B, .plain .add_A_C, .plain .add_A_D, .plain .add_A_E, .plain .add_A_H, .plain .add_A_L,
   .plain .add_A_mHL, .plain .add_A_A, .plain .adc_A_B, .plain .adc_A_C, .plain .adc_A_D, .plain .adc_A_E,
   .plain .adc_A_H, .plain .adc_A_L, .plain .adc_A_mHL, .plain .adc_A_A]

/-- Base row 90 (R88). -/
def baseRow9 : List Entry :=
  [.plain .sub_B, .plain .sub_C, .plain .sub_D, .plain .sub_E, .plain .sub_H, .plain .sub_L, .plain .sub_mHL,
   .plain .sub_A, .plain .sbc_A_B, .plain .sbc_A_C, .plain .sbc_A_D, .plain .sbc_A_E, .plain .sbc_A_H,
   .plain .sbc_A_L, .plain .sbc_A_mHL, .plain .sbc_A_A]

/-- Base row A0 (R88). -/
def baseRowA : List Entry :=
  [.plain .and_B, .plain .and_C, .plain .and_D, .plain .and_E, .plain .and_H, .plain .and_L, .plain .and_mHL,
   .plain .and_A, .plain .xor_B, .plain .xor_C, .plain .xor_D, .plain .xor_E, .plain .xor_H, .plain .xor_L,
   .plain .xor_mHL, .plain .xor_A]

/-- Base row B0 (R88). -/
def baseRowB : List Entry :=
  [.plain .or_B, .plain .or_C, .plain .or_D, .plain .or_E, .plain .or_H, .plain .or_L, .plain .or_mHL, .plain .or_A,
   .plain .cp_B, .plain .cp_C, .plain .cp_D, .plain .cp_E, .plain .cp_H, .plain .cp_L, .plain .cp_mHL, .plain .cp_A]

/-- Base row C0 (R88). -/
def baseRowC : List Entry :=
  [.plain .ret_NZ, .plain .pop_BC, .withWord .jp_NZ_a16, .withWord .jp_a16, .withWord .call_NZ_a16, .plain .push_BC,
   .withByte .add_A_n8, .plain .rst_00, .plain .ret_Z, .plain .ret, .withWord .jp_Z_a16, .withByte cbInstr,
   .withWord .call_Z_a16, .withWord .call_a16, .withByte .adc_A_n8, .plain .rst_08]

/-- Base row D0 (R88). -/
def baseRowD : List Entry :=
  [.plain .ret_NC, .plain .pop_DE, .withWord .jp_NC_a16, .plain .undefined_D3, .withWord .call_NC_a16,
   .plain .push_DE, .withByte .sub_n8, .plain .rst_10, .plain .ret_C, .plain .reti, .withWord .jp_C_a16,
   .plain .undefined_DB, .withWord .call_C_a16, .plain .undefined_DD, .withByte .sbc_A_n8, .plain .rst_18]

/-- Base row E0 (R88). -/
def baseRowE : List Entry :=
  [.withByte .ldh_ma8_A, .plain .pop_HL, .plain .ld_mC_A, .plain .undefined_E3, .plain .undefined_E4,
   .plain .push_HL, .withByte .and_n8, .plain .rst_20, .withByte .add_SP_e8, .plain .jp_HL, .withWord .ld_ma16_A,
   .plain .undefined_EB, .plain .undefined_EC, .plain .undefined_ED, .withByte .xor_n8, .plain .rst_28]

/-- Base row F0 (R88). -/
def baseRowF : List Entry :=
  [.withByte .ldh_A_ma8, .plain .pop_AF, .plain .ld_A_mC, .plain .di, .plain .undefined_F4, .plain .push_AF,
   .withByte .or_n8, .plain .rst_30, .withByte .ld_HL_SP_e8, .plain .ld_SP_HL, .withWord .ld_A_ma16, .plain .ei,
   .plain .undefined_FC, .plain .undefined_FD, .withByte .cp_n8, .plain .rst_38]

/-- The base table (R88). -/
def baseTable : List (List Entry) :=
  [baseRow0, baseRow1, baseRow2, baseRow3, baseRow4, baseRow5, baseRow6, baseRow7,
   baseRow8, baseRow9, baseRowA, baseRowB, baseRowC, baseRowD, baseRowE, baseRowF]

/-- `BASE[op]` (R85, R88), the prefix and the undefined opcodes included. -/
def baseEntry (op : Byte) : Entry := tableCell baseTable (.plain .nop) op

/-- The length in bytes an entry gives its instructions (R80). -/
def Entry.length : Entry → Nat
  | .plain _ => 1
  | .withByte _ => 2
  | .withWord _ => 3

/-! ### The decoder -/

/-- Why a list of bytes is no instruction: there is no opcode byte, or the operand bytes of the opcode are missing. -/
inductive DecodeError where
  | noBytes
  | truncated (op : Byte)
  deriving DecidableEq, Repr

/-- The first instruction of a list of bytes and the bytes after it (R80 to R91). -/
def decode : List Byte → Except DecodeError (Instr × List Byte)
  | [] => .error .noBytes
  | op :: rest =>
    match baseEntry op, rest with
    | .plain i, rest => .ok (i, rest)
    | .withByte f, b :: rest => .ok (f b, rest)
    | .withWord f, lo :: hi :: rest => .ok (f (joinWord hi lo), rest)
    | .withByte _, [] => .error (.truncated op)
    | .withWord _, _ => .error (.truncated op)

/-- The three bytes of a table word. A word of 16 bits whose high byte is 0xCB is a CB row as spec/opcode_table.json
numbers it (match 0xCBoo, the prefix in bits 15..8, stored first); every other word is laid out with its low byte first.
DEDUCED, safe (log 8). -/
def tableBytes (nbits w : Nat) : List Byte :=
  let v := w % 2 ^ nbits
  if nbits = 16 ∧ v / 256 = 0xCB then [0xCB#8, BitVec.ofNat 8 v, 0x00#8]
  else [BitVec.ofNat 8 v, BitVec.ofNat 8 (v / 256), BitVec.ofNat 8 (v / 65536)]

/-- The instruction the decoder reads from a word of the opcode table, operand bytes above `nbits` zero. -/
def decodeTableWord (nbits w : Nat) : Option Instr :=
  match decode (tableBytes nbits w) with
  | .ok (i, _) => some i
  | .error _ => none

/-! ### The encoder -/

/-- The bytes of an instruction in address order (R80, R88, R89). -/
def encode (i : Instr) : List Byte :=
  match i with
  | .nop => [0x00#8]
  | .ld_BC_n16 n => [0x01#8, loByte n, hiByte n]
  | .ld_mBC_A => [0x02#8]
  | .inc_BC => [0x03#8]
  | .inc_B => [0x04#8]
  | .dec_B => [0x05#8]
  | .ld_B_n8 n => [0x06#8, n]
  | .rlca => [0x07#8]
  | .ld_ma16_SP n => [0x08#8, loByte n, hiByte n]
  | .add_HL_BC => [0x09#8]
  | .ld_A_mBC => [0x0A#8]
  | .dec_BC => [0x0B#8]
  | .inc_C => [0x0C#8]
  | .dec_C => [0x0D#8]
  | .ld_C_n8 n => [0x0E#8, n]
  | .rrca => [0x0F#8]
  | .stop n => [0x10#8, n]
  | .ld_DE_n16 n => [0x11#8, loByte n, hiByte n]
  | .ld_mDE_A => [0x12#8]
  | .inc_DE => [0x13#8]
  | .inc_D => [0x14#8]
  | .dec_D => [0x15#8]
  | .ld_D_n8 n => [0x16#8, n]
  | .rla => [0x17#8]
  | .jr_e8 e => [0x18#8, e]
  | .add_HL_DE => [0x19#8]
  | .ld_A_mDE => [0x1A#8]
  | .dec_DE => [0x1B#8]
  | .inc_E => [0x1C#8]
  | .dec_E => [0x1D#8]
  | .ld_E_n8 n => [0x1E#8, n]
  | .rra => [0x1F#8]
  | .jr_NZ_e8 e => [0x20#8, e]
  | .ld_HL_n16 n => [0x21#8, loByte n, hiByte n]
  | .ld_mHLi_A => [0x22#8]
  | .inc_HL => [0x23#8]
  | .inc_H => [0x24#8]
  | .dec_H => [0x25#8]
  | .ld_H_n8 n => [0x26#8, n]
  | .daa => [0x27#8]
  | .jr_Z_e8 e => [0x28#8, e]
  | .add_HL_HL => [0x29#8]
  | .ld_A_mHLi => [0x2A#8]
  | .dec_HL => [0x2B#8]
  | .inc_L => [0x2C#8]
  | .dec_L => [0x2D#8]
  | .ld_L_n8 n => [0x2E#8, n]
  | .cpl => [0x2F#8]
  | .jr_NC_e8 e => [0x30#8, e]
  | .ld_SP_n16 n => [0x31#8, loByte n, hiByte n]
  | .ld_mHLd_A => [0x32#8]
  | .inc_SP => [0x33#8]
  | .inc_mHL => [0x34#8]
  | .dec_mHL => [0x35#8]
  | .ld_mHL_n8 n => [0x36#8, n]
  | .scf => [0x37#8]
  | .jr_C_e8 e => [0x38#8, e]
  | .add_HL_SP => [0x39#8]
  | .ld_A_mHLd => [0x3A#8]
  | .dec_SP => [0x3B#8]
  | .inc_A => [0x3C#8]
  | .dec_A => [0x3D#8]
  | .ld_A_n8 n => [0x3E#8, n]
  | .ccf => [0x3F#8]
  | .ld_B_B => [0x40#8]
  | .ld_B_C => [0x41#8]
  | .ld_B_D => [0x42#8]
  | .ld_B_E => [0x43#8]
  | .ld_B_H => [0x44#8]
  | .ld_B_L => [0x45#8]
  | .ld_B_mHL => [0x46#8]
  | .ld_B_A => [0x47#8]
  | .ld_C_B => [0x48#8]
  | .ld_C_C => [0x49#8]
  | .ld_C_D => [0x4A#8]
  | .ld_C_E => [0x4B#8]
  | .ld_C_H => [0x4C#8]
  | .ld_C_L => [0x4D#8]
  | .ld_C_mHL => [0x4E#8]
  | .ld_C_A => [0x4F#8]
  | .ld_D_B => [0x50#8]
  | .ld_D_C => [0x51#8]
  | .ld_D_D => [0x52#8]
  | .ld_D_E => [0x53#8]
  | .ld_D_H => [0x54#8]
  | .ld_D_L => [0x55#8]
  | .ld_D_mHL => [0x56#8]
  | .ld_D_A => [0x57#8]
  | .ld_E_B => [0x58#8]
  | .ld_E_C => [0x59#8]
  | .ld_E_D => [0x5A#8]
  | .ld_E_E => [0x5B#8]
  | .ld_E_H => [0x5C#8]
  | .ld_E_L => [0x5D#8]
  | .ld_E_mHL => [0x5E#8]
  | .ld_E_A => [0x5F#8]
  | .ld_H_B => [0x60#8]
  | .ld_H_C => [0x61#8]
  | .ld_H_D => [0x62#8]
  | .ld_H_E => [0x63#8]
  | .ld_H_H => [0x64#8]
  | .ld_H_L => [0x65#8]
  | .ld_H_mHL => [0x66#8]
  | .ld_H_A => [0x67#8]
  | .ld_L_B => [0x68#8]
  | .ld_L_C => [0x69#8]
  | .ld_L_D => [0x6A#8]
  | .ld_L_E => [0x6B#8]
  | .ld_L_H => [0x6C#8]
  | .ld_L_L => [0x6D#8]
  | .ld_L_mHL => [0x6E#8]
  | .ld_L_A => [0x6F#8]
  | .ld_mHL_B => [0x70#8]
  | .ld_mHL_C => [0x71#8]
  | .ld_mHL_D => [0x72#8]
  | .ld_mHL_E => [0x73#8]
  | .ld_mHL_H => [0x74#8]
  | .ld_mHL_L => [0x75#8]
  | .halt => [0x76#8]
  | .ld_mHL_A => [0x77#8]
  | .ld_A_B => [0x78#8]
  | .ld_A_C => [0x79#8]
  | .ld_A_D => [0x7A#8]
  | .ld_A_E => [0x7B#8]
  | .ld_A_H => [0x7C#8]
  | .ld_A_L => [0x7D#8]
  | .ld_A_mHL => [0x7E#8]
  | .ld_A_A => [0x7F#8]
  | .add_A_B => [0x80#8]
  | .add_A_C => [0x81#8]
  | .add_A_D => [0x82#8]
  | .add_A_E => [0x83#8]
  | .add_A_H => [0x84#8]
  | .add_A_L => [0x85#8]
  | .add_A_mHL => [0x86#8]
  | .add_A_A => [0x87#8]
  | .adc_A_B => [0x88#8]
  | .adc_A_C => [0x89#8]
  | .adc_A_D => [0x8A#8]
  | .adc_A_E => [0x8B#8]
  | .adc_A_H => [0x8C#8]
  | .adc_A_L => [0x8D#8]
  | .adc_A_mHL => [0x8E#8]
  | .adc_A_A => [0x8F#8]
  | .sub_B => [0x90#8]
  | .sub_C => [0x91#8]
  | .sub_D => [0x92#8]
  | .sub_E => [0x93#8]
  | .sub_H => [0x94#8]
  | .sub_L => [0x95#8]
  | .sub_mHL => [0x96#8]
  | .sub_A => [0x97#8]
  | .sbc_A_B => [0x98#8]
  | .sbc_A_C => [0x99#8]
  | .sbc_A_D => [0x9A#8]
  | .sbc_A_E => [0x9B#8]
  | .sbc_A_H => [0x9C#8]
  | .sbc_A_L => [0x9D#8]
  | .sbc_A_mHL => [0x9E#8]
  | .sbc_A_A => [0x9F#8]
  | .and_B => [0xA0#8]
  | .and_C => [0xA1#8]
  | .and_D => [0xA2#8]
  | .and_E => [0xA3#8]
  | .and_H => [0xA4#8]
  | .and_L => [0xA5#8]
  | .and_mHL => [0xA6#8]
  | .and_A => [0xA7#8]
  | .xor_B => [0xA8#8]
  | .xor_C => [0xA9#8]
  | .xor_D => [0xAA#8]
  | .xor_E => [0xAB#8]
  | .xor_H => [0xAC#8]
  | .xor_L => [0xAD#8]
  | .xor_mHL => [0xAE#8]
  | .xor_A => [0xAF#8]
  | .or_B => [0xB0#8]
  | .or_C => [0xB1#8]
  | .or_D => [0xB2#8]
  | .or_E => [0xB3#8]
  | .or_H => [0xB4#8]
  | .or_L => [0xB5#8]
  | .or_mHL => [0xB6#8]
  | .or_A => [0xB7#8]
  | .cp_B => [0xB8#8]
  | .cp_C => [0xB9#8]
  | .cp_D => [0xBA#8]
  | .cp_E => [0xBB#8]
  | .cp_H => [0xBC#8]
  | .cp_L => [0xBD#8]
  | .cp_mHL => [0xBE#8]
  | .cp_A => [0xBF#8]
  | .ret_NZ => [0xC0#8]
  | .pop_BC => [0xC1#8]
  | .jp_NZ_a16 n => [0xC2#8, loByte n, hiByte n]
  | .jp_a16 n => [0xC3#8, loByte n, hiByte n]
  | .call_NZ_a16 n => [0xC4#8, loByte n, hiByte n]
  | .push_BC => [0xC5#8]
  | .add_A_n8 n => [0xC6#8, n]
  | .rst_00 => [0xC7#8]
  | .ret_Z => [0xC8#8]
  | .ret => [0xC9#8]
  | .jp_Z_a16 n => [0xCA#8, loByte n, hiByte n]
  | .prefixCB o => [0xCB#8, o]
  | .call_Z_a16 n => [0xCC#8, loByte n, hiByte n]
  | .call_a16 n => [0xCD#8, loByte n, hiByte n]
  | .adc_A_n8 n => [0xCE#8, n]
  | .rst_08 => [0xCF#8]
  | .ret_NC => [0xD0#8]
  | .pop_DE => [0xD1#8]
  | .jp_NC_a16 n => [0xD2#8, loByte n, hiByte n]
  | .call_NC_a16 n => [0xD4#8, loByte n, hiByte n]
  | .push_DE => [0xD5#8]
  | .sub_n8 n => [0xD6#8, n]
  | .rst_10 => [0xD7#8]
  | .ret_C => [0xD8#8]
  | .reti => [0xD9#8]
  | .jp_C_a16 n => [0xDA#8, loByte n, hiByte n]
  | .call_C_a16 n => [0xDC#8, loByte n, hiByte n]
  | .sbc_A_n8 n => [0xDE#8, n]
  | .rst_18 => [0xDF#8]
  | .ldh_ma8_A n => [0xE0#8, n]
  | .pop_HL => [0xE1#8]
  | .ld_mC_A => [0xE2#8]
  | .push_HL => [0xE5#8]
  | .and_n8 n => [0xE6#8, n]
  | .rst_20 => [0xE7#8]
  | .add_SP_e8 e => [0xE8#8, e]
  | .jp_HL => [0xE9#8]
  | .ld_ma16_A n => [0xEA#8, loByte n, hiByte n]
  | .xor_n8 n => [0xEE#8, n]
  | .rst_28 => [0xEF#8]
  | .ldh_A_ma8 n => [0xF0#8, n]
  | .pop_AF => [0xF1#8]
  | .ld_A_mC => [0xF2#8]
  | .di => [0xF3#8]
  | .push_AF => [0xF5#8]
  | .or_n8 n => [0xF6#8, n]
  | .rst_30 => [0xF7#8]
  | .ld_HL_SP_e8 e => [0xF8#8, e]
  | .ld_SP_HL => [0xF9#8]
  | .ld_A_ma16 n => [0xFA#8, loByte n, hiByte n]
  | .ei => [0xFB#8]
  | .cp_n8 n => [0xFE#8, n]
  | .rst_38 => [0xFF#8]
  | .undefined_D3 => [0xD3#8]
  | .undefined_DB => [0xDB#8]
  | .undefined_DD => [0xDD#8]
  | .undefined_E3 => [0xE3#8]
  | .undefined_E4 => [0xE4#8]
  | .undefined_EB => [0xEB#8]
  | .undefined_EC => [0xEC#8]
  | .undefined_ED => [0xED#8]
  | .undefined_F4 => [0xF4#8]
  | .undefined_FC => [0xFC#8]
  | .undefined_FD => [0xFD#8]
  | .rlc_B => [0xCB#8, 0x00#8]
  | .rlc_C => [0xCB#8, 0x01#8]
  | .rlc_D => [0xCB#8, 0x02#8]
  | .rlc_E => [0xCB#8, 0x03#8]
  | .rlc_H => [0xCB#8, 0x04#8]
  | .rlc_L => [0xCB#8, 0x05#8]
  | .rlc_mHL => [0xCB#8, 0x06#8]
  | .rlc_A => [0xCB#8, 0x07#8]
  | .rrc_B => [0xCB#8, 0x08#8]
  | .rrc_C => [0xCB#8, 0x09#8]
  | .rrc_D => [0xCB#8, 0x0A#8]
  | .rrc_E => [0xCB#8, 0x0B#8]
  | .rrc_H => [0xCB#8, 0x0C#8]
  | .rrc_L => [0xCB#8, 0x0D#8]
  | .rrc_mHL => [0xCB#8, 0x0E#8]
  | .rrc_A => [0xCB#8, 0x0F#8]
  | .rl_B => [0xCB#8, 0x10#8]
  | .rl_C => [0xCB#8, 0x11#8]
  | .rl_D => [0xCB#8, 0x12#8]
  | .rl_E => [0xCB#8, 0x13#8]
  | .rl_H => [0xCB#8, 0x14#8]
  | .rl_L => [0xCB#8, 0x15#8]
  | .rl_mHL => [0xCB#8, 0x16#8]
  | .rl_A => [0xCB#8, 0x17#8]
  | .rr_B => [0xCB#8, 0x18#8]
  | .rr_C => [0xCB#8, 0x19#8]
  | .rr_D => [0xCB#8, 0x1A#8]
  | .rr_E => [0xCB#8, 0x1B#8]
  | .rr_H => [0xCB#8, 0x1C#8]
  | .rr_L => [0xCB#8, 0x1D#8]
  | .rr_mHL => [0xCB#8, 0x1E#8]
  | .rr_A => [0xCB#8, 0x1F#8]
  | .sla_B => [0xCB#8, 0x20#8]
  | .sla_C => [0xCB#8, 0x21#8]
  | .sla_D => [0xCB#8, 0x22#8]
  | .sla_E => [0xCB#8, 0x23#8]
  | .sla_H => [0xCB#8, 0x24#8]
  | .sla_L => [0xCB#8, 0x25#8]
  | .sla_mHL => [0xCB#8, 0x26#8]
  | .sla_A => [0xCB#8, 0x27#8]
  | .sra_B => [0xCB#8, 0x28#8]
  | .sra_C => [0xCB#8, 0x29#8]
  | .sra_D => [0xCB#8, 0x2A#8]
  | .sra_E => [0xCB#8, 0x2B#8]
  | .sra_H => [0xCB#8, 0x2C#8]
  | .sra_L => [0xCB#8, 0x2D#8]
  | .sra_mHL => [0xCB#8, 0x2E#8]
  | .sra_A => [0xCB#8, 0x2F#8]
  | .swap_B => [0xCB#8, 0x30#8]
  | .swap_C => [0xCB#8, 0x31#8]
  | .swap_D => [0xCB#8, 0x32#8]
  | .swap_E => [0xCB#8, 0x33#8]
  | .swap_H => [0xCB#8, 0x34#8]
  | .swap_L => [0xCB#8, 0x35#8]
  | .swap_mHL => [0xCB#8, 0x36#8]
  | .swap_A => [0xCB#8, 0x37#8]
  | .srl_B => [0xCB#8, 0x38#8]
  | .srl_C => [0xCB#8, 0x39#8]
  | .srl_D => [0xCB#8, 0x3A#8]
  | .srl_E => [0xCB#8, 0x3B#8]
  | .srl_H => [0xCB#8, 0x3C#8]
  | .srl_L => [0xCB#8, 0x3D#8]
  | .srl_mHL => [0xCB#8, 0x3E#8]
  | .srl_A => [0xCB#8, 0x3F#8]
  | .bit_0_B => [0xCB#8, 0x40#8]
  | .bit_0_C => [0xCB#8, 0x41#8]
  | .bit_0_D => [0xCB#8, 0x42#8]
  | .bit_0_E => [0xCB#8, 0x43#8]
  | .bit_0_H => [0xCB#8, 0x44#8]
  | .bit_0_L => [0xCB#8, 0x45#8]
  | .bit_0_mHL => [0xCB#8, 0x46#8]
  | .bit_0_A => [0xCB#8, 0x47#8]
  | .bit_1_B => [0xCB#8, 0x48#8]
  | .bit_1_C => [0xCB#8, 0x49#8]
  | .bit_1_D => [0xCB#8, 0x4A#8]
  | .bit_1_E => [0xCB#8, 0x4B#8]
  | .bit_1_H => [0xCB#8, 0x4C#8]
  | .bit_1_L => [0xCB#8, 0x4D#8]
  | .bit_1_mHL => [0xCB#8, 0x4E#8]
  | .bit_1_A => [0xCB#8, 0x4F#8]
  | .bit_2_B => [0xCB#8, 0x50#8]
  | .bit_2_C => [0xCB#8, 0x51#8]
  | .bit_2_D => [0xCB#8, 0x52#8]
  | .bit_2_E => [0xCB#8, 0x53#8]
  | .bit_2_H => [0xCB#8, 0x54#8]
  | .bit_2_L => [0xCB#8, 0x55#8]
  | .bit_2_mHL => [0xCB#8, 0x56#8]
  | .bit_2_A => [0xCB#8, 0x57#8]
  | .bit_3_B => [0xCB#8, 0x58#8]
  | .bit_3_C => [0xCB#8, 0x59#8]
  | .bit_3_D => [0xCB#8, 0x5A#8]
  | .bit_3_E => [0xCB#8, 0x5B#8]
  | .bit_3_H => [0xCB#8, 0x5C#8]
  | .bit_3_L => [0xCB#8, 0x5D#8]
  | .bit_3_mHL => [0xCB#8, 0x5E#8]
  | .bit_3_A => [0xCB#8, 0x5F#8]
  | .bit_4_B => [0xCB#8, 0x60#8]
  | .bit_4_C => [0xCB#8, 0x61#8]
  | .bit_4_D => [0xCB#8, 0x62#8]
  | .bit_4_E => [0xCB#8, 0x63#8]
  | .bit_4_H => [0xCB#8, 0x64#8]
  | .bit_4_L => [0xCB#8, 0x65#8]
  | .bit_4_mHL => [0xCB#8, 0x66#8]
  | .bit_4_A => [0xCB#8, 0x67#8]
  | .bit_5_B => [0xCB#8, 0x68#8]
  | .bit_5_C => [0xCB#8, 0x69#8]
  | .bit_5_D => [0xCB#8, 0x6A#8]
  | .bit_5_E => [0xCB#8, 0x6B#8]
  | .bit_5_H => [0xCB#8, 0x6C#8]
  | .bit_5_L => [0xCB#8, 0x6D#8]
  | .bit_5_mHL => [0xCB#8, 0x6E#8]
  | .bit_5_A => [0xCB#8, 0x6F#8]
  | .bit_6_B => [0xCB#8, 0x70#8]
  | .bit_6_C => [0xCB#8, 0x71#8]
  | .bit_6_D => [0xCB#8, 0x72#8]
  | .bit_6_E => [0xCB#8, 0x73#8]
  | .bit_6_H => [0xCB#8, 0x74#8]
  | .bit_6_L => [0xCB#8, 0x75#8]
  | .bit_6_mHL => [0xCB#8, 0x76#8]
  | .bit_6_A => [0xCB#8, 0x77#8]
  | .bit_7_B => [0xCB#8, 0x78#8]
  | .bit_7_C => [0xCB#8, 0x79#8]
  | .bit_7_D => [0xCB#8, 0x7A#8]
  | .bit_7_E => [0xCB#8, 0x7B#8]
  | .bit_7_H => [0xCB#8, 0x7C#8]
  | .bit_7_L => [0xCB#8, 0x7D#8]
  | .bit_7_mHL => [0xCB#8, 0x7E#8]
  | .bit_7_A => [0xCB#8, 0x7F#8]
  | .res_0_B => [0xCB#8, 0x80#8]
  | .res_0_C => [0xCB#8, 0x81#8]
  | .res_0_D => [0xCB#8, 0x82#8]
  | .res_0_E => [0xCB#8, 0x83#8]
  | .res_0_H => [0xCB#8, 0x84#8]
  | .res_0_L => [0xCB#8, 0x85#8]
  | .res_0_mHL => [0xCB#8, 0x86#8]
  | .res_0_A => [0xCB#8, 0x87#8]
  | .res_1_B => [0xCB#8, 0x88#8]
  | .res_1_C => [0xCB#8, 0x89#8]
  | .res_1_D => [0xCB#8, 0x8A#8]
  | .res_1_E => [0xCB#8, 0x8B#8]
  | .res_1_H => [0xCB#8, 0x8C#8]
  | .res_1_L => [0xCB#8, 0x8D#8]
  | .res_1_mHL => [0xCB#8, 0x8E#8]
  | .res_1_A => [0xCB#8, 0x8F#8]
  | .res_2_B => [0xCB#8, 0x90#8]
  | .res_2_C => [0xCB#8, 0x91#8]
  | .res_2_D => [0xCB#8, 0x92#8]
  | .res_2_E => [0xCB#8, 0x93#8]
  | .res_2_H => [0xCB#8, 0x94#8]
  | .res_2_L => [0xCB#8, 0x95#8]
  | .res_2_mHL => [0xCB#8, 0x96#8]
  | .res_2_A => [0xCB#8, 0x97#8]
  | .res_3_B => [0xCB#8, 0x98#8]
  | .res_3_C => [0xCB#8, 0x99#8]
  | .res_3_D => [0xCB#8, 0x9A#8]
  | .res_3_E => [0xCB#8, 0x9B#8]
  | .res_3_H => [0xCB#8, 0x9C#8]
  | .res_3_L => [0xCB#8, 0x9D#8]
  | .res_3_mHL => [0xCB#8, 0x9E#8]
  | .res_3_A => [0xCB#8, 0x9F#8]
  | .res_4_B => [0xCB#8, 0xA0#8]
  | .res_4_C => [0xCB#8, 0xA1#8]
  | .res_4_D => [0xCB#8, 0xA2#8]
  | .res_4_E => [0xCB#8, 0xA3#8]
  | .res_4_H => [0xCB#8, 0xA4#8]
  | .res_4_L => [0xCB#8, 0xA5#8]
  | .res_4_mHL => [0xCB#8, 0xA6#8]
  | .res_4_A => [0xCB#8, 0xA7#8]
  | .res_5_B => [0xCB#8, 0xA8#8]
  | .res_5_C => [0xCB#8, 0xA9#8]
  | .res_5_D => [0xCB#8, 0xAA#8]
  | .res_5_E => [0xCB#8, 0xAB#8]
  | .res_5_H => [0xCB#8, 0xAC#8]
  | .res_5_L => [0xCB#8, 0xAD#8]
  | .res_5_mHL => [0xCB#8, 0xAE#8]
  | .res_5_A => [0xCB#8, 0xAF#8]
  | .res_6_B => [0xCB#8, 0xB0#8]
  | .res_6_C => [0xCB#8, 0xB1#8]
  | .res_6_D => [0xCB#8, 0xB2#8]
  | .res_6_E => [0xCB#8, 0xB3#8]
  | .res_6_H => [0xCB#8, 0xB4#8]
  | .res_6_L => [0xCB#8, 0xB5#8]
  | .res_6_mHL => [0xCB#8, 0xB6#8]
  | .res_6_A => [0xCB#8, 0xB7#8]
  | .res_7_B => [0xCB#8, 0xB8#8]
  | .res_7_C => [0xCB#8, 0xB9#8]
  | .res_7_D => [0xCB#8, 0xBA#8]
  | .res_7_E => [0xCB#8, 0xBB#8]
  | .res_7_H => [0xCB#8, 0xBC#8]
  | .res_7_L => [0xCB#8, 0xBD#8]
  | .res_7_mHL => [0xCB#8, 0xBE#8]
  | .res_7_A => [0xCB#8, 0xBF#8]
  | .set_0_B => [0xCB#8, 0xC0#8]
  | .set_0_C => [0xCB#8, 0xC1#8]
  | .set_0_D => [0xCB#8, 0xC2#8]
  | .set_0_E => [0xCB#8, 0xC3#8]
  | .set_0_H => [0xCB#8, 0xC4#8]
  | .set_0_L => [0xCB#8, 0xC5#8]
  | .set_0_mHL => [0xCB#8, 0xC6#8]
  | .set_0_A => [0xCB#8, 0xC7#8]
  | .set_1_B => [0xCB#8, 0xC8#8]
  | .set_1_C => [0xCB#8, 0xC9#8]
  | .set_1_D => [0xCB#8, 0xCA#8]
  | .set_1_E => [0xCB#8, 0xCB#8]
  | .set_1_H => [0xCB#8, 0xCC#8]
  | .set_1_L => [0xCB#8, 0xCD#8]
  | .set_1_mHL => [0xCB#8, 0xCE#8]
  | .set_1_A => [0xCB#8, 0xCF#8]
  | .set_2_B => [0xCB#8, 0xD0#8]
  | .set_2_C => [0xCB#8, 0xD1#8]
  | .set_2_D => [0xCB#8, 0xD2#8]
  | .set_2_E => [0xCB#8, 0xD3#8]
  | .set_2_H => [0xCB#8, 0xD4#8]
  | .set_2_L => [0xCB#8, 0xD5#8]
  | .set_2_mHL => [0xCB#8, 0xD6#8]
  | .set_2_A => [0xCB#8, 0xD7#8]
  | .set_3_B => [0xCB#8, 0xD8#8]
  | .set_3_C => [0xCB#8, 0xD9#8]
  | .set_3_D => [0xCB#8, 0xDA#8]
  | .set_3_E => [0xCB#8, 0xDB#8]
  | .set_3_H => [0xCB#8, 0xDC#8]
  | .set_3_L => [0xCB#8, 0xDD#8]
  | .set_3_mHL => [0xCB#8, 0xDE#8]
  | .set_3_A => [0xCB#8, 0xDF#8]
  | .set_4_B => [0xCB#8, 0xE0#8]
  | .set_4_C => [0xCB#8, 0xE1#8]
  | .set_4_D => [0xCB#8, 0xE2#8]
  | .set_4_E => [0xCB#8, 0xE3#8]
  | .set_4_H => [0xCB#8, 0xE4#8]
  | .set_4_L => [0xCB#8, 0xE5#8]
  | .set_4_mHL => [0xCB#8, 0xE6#8]
  | .set_4_A => [0xCB#8, 0xE7#8]
  | .set_5_B => [0xCB#8, 0xE8#8]
  | .set_5_C => [0xCB#8, 0xE9#8]
  | .set_5_D => [0xCB#8, 0xEA#8]
  | .set_5_E => [0xCB#8, 0xEB#8]
  | .set_5_H => [0xCB#8, 0xEC#8]
  | .set_5_L => [0xCB#8, 0xED#8]
  | .set_5_mHL => [0xCB#8, 0xEE#8]
  | .set_5_A => [0xCB#8, 0xEF#8]
  | .set_6_B => [0xCB#8, 0xF0#8]
  | .set_6_C => [0xCB#8, 0xF1#8]
  | .set_6_D => [0xCB#8, 0xF2#8]
  | .set_6_E => [0xCB#8, 0xF3#8]
  | .set_6_H => [0xCB#8, 0xF4#8]
  | .set_6_L => [0xCB#8, 0xF5#8]
  | .set_6_mHL => [0xCB#8, 0xF6#8]
  | .set_6_A => [0xCB#8, 0xF7#8]
  | .set_7_B => [0xCB#8, 0xF8#8]
  | .set_7_C => [0xCB#8, 0xF9#8]
  | .set_7_D => [0xCB#8, 0xFA#8]
  | .set_7_E => [0xCB#8, 0xFB#8]
  | .set_7_H => [0xCB#8, 0xFC#8]
  | .set_7_L => [0xCB#8, 0xFD#8]
  | .set_7_mHL => [0xCB#8, 0xFE#8]
  | .set_7_A => [0xCB#8, 0xFF#8]

end Sys2Proof
end

