-- ==== Sys2Proof/Machine/Flags.lean ====
section
/-! DEFINITION. The ALU primitives and every flag computation: spec/42_alu8.md R140 to R148 and R178, spec/43_alu16.md R190
and R191, spec/44_rotate_shift.md R200 to R207, spec/45_bit.md. Each is a pure function of its operands (R149); sums and
differences are formed on unbounded numbers and narrowed (R8). -/

namespace Sys2Proof.Machine

/-- The result of an 8-bit primitive: value, Z, N, H, C. -/
structure Alu8 where
  value : Byte
  z : Bool
  n : Bool
  h : Bool
  c : Bool
  deriving DecidableEq, Repr

/-- The result of `inc8` and `dec8`, which produce no C. -/
structure AluNoC where
  value : Byte
  z : Bool
  n : Bool
  h : Bool
  deriving DecidableEq, Repr

/-- The result of `add16`, which produces no Z. -/
structure Alu16 where
  value : Word
  n : Bool
  h : Bool
  c : Bool
  deriving DecidableEq, Repr

/-- The result of `spadd`. -/
structure AluSp where
  value : Word
  h : Bool
  c : Bool
  deriving DecidableEq, Repr

/-- The result of a rotate or shift: `(value, C)`. -/
structure Rot where
  value : Byte
  c : Bool
  deriving DecidableEq, Repr

/-- `v & 0xF`. -/
def lowNibble (v : Byte) : Nat := v.toNat % 16

/-- R140. -/
def add8 (a b : Byte) : Alu8 :=
  let s := a.toNat + b.toNat
  let value := BitVec.ofNat 8 s
  ⟨value, decide (value = 0#8), false, decide (lowNibble a + lowNibble b > 0xF), decide (s > 0xFF)⟩

/-- R141. -/
def adc8 (a b : Byte) (c : Bool) : Alu8 :=
  let s := a.toNat + b.toNat + c.toNat
  let value := BitVec.ofNat 8 s
  ⟨value, decide (value = 0#8), false, decide (lowNibble a + lowNibble b + c.toNat > 0xF), decide (s > 0xFF)⟩

/-- R142. -/
def sub8 (a b : Byte) : Alu8 :=
  let value := BitVec.ofInt 8 ((a.toNat : Int) - b.toNat)
  ⟨value, decide (value = 0#8), true, decide (lowNibble a < lowNibble b), decide (a.toNat < b.toNat)⟩

/-- R143. -/
def sbc8 (a b : Byte) (c : Bool) : Alu8 :=
  let value := BitVec.ofInt 8 ((a.toNat : Int) - b.toNat - c.toNat)
  ⟨value, decide (value = 0#8), true, decide (lowNibble a < lowNibble b + c.toNat),
    decide (a.toNat < b.toNat + c.toNat)⟩

/-- R144. -/
def and8 (a b : Byte) : Alu8 := ⟨a &&& b, decide (a &&& b = 0#8), false, true, false⟩

/-- R145. -/
def xor8 (a b : Byte) : Alu8 := ⟨a ^^^ b, decide (a ^^^ b = 0#8), false, false, false⟩

/-- R146. -/
def or8 (a b : Byte) : Alu8 := ⟨a ||| b, decide (a ||| b = 0#8), false, false, false⟩

/-- R147. -/
def inc8 (a : Byte) : AluNoC :=
  let value := BitVec.ofNat 8 (a.toNat + 1)
  ⟨value, decide (value = 0#8), false, decide (lowNibble a + 1 > 0xF)⟩

/-- R148. -/
def dec8 (a : Byte) : AluNoC :=
  let value := BitVec.ofInt 8 ((a.toNat : Int) - 1)
  ⟨value, decide (value = 0#8), true, decide (lowNibble a < 1)⟩

/-- DAA's value and carry, from A and F's N, H, C (R178). -/
def daa8 (a : Byte) (n h c : Bool) : Rot :=
  if n then
    let x : Int := (a.toNat : Int) - (if c then 0x60 else 0) - (if h then 0x06 else 0)
    ⟨BitVec.ofInt 8 x, c⟩
  else
    let c' := c || decide (a.toNat > 0x99)
    let x : Nat := a.toNat + (if c' then 0x60 else 0)
    let x' : Nat := x + (if h || decide (x % 16 > 0x09) then 0x06 else 0)
    ⟨BitVec.ofNat 8 x', c'⟩

/-- R190. -/
def add16 (a b : Word) : Alu16 :=
  let s := a.toNat + b.toNat
  ⟨BitVec.ofNat 16 s, false, decide (a.toNat % 0x1000 + b.toNat % 0x1000 > 0xFFF), decide (s > 0xFFFF)⟩

/-- R191: H and C from the unsigned add of SP's low byte and the raw byte e. -/
def spadd (sp : Word) (e : Byte) : AluSp :=
  ⟨sp + e.signExtend 16, decide (sp.toNat % 16 + e.toNat % 16 > 0x0F), decide (sp.toNat % 256 + e.toNat > 0xFF)⟩

/-- R200. -/
def rlc (a : Byte) : Rot := ⟨(a <<< 1) ||| (a >>> 7), a.getLsbD 7⟩

/-- R201. -/
def rrc (a : Byte) : Rot := ⟨(a >>> 1) ||| (a <<< 7), a.getLsbD 0⟩

/-- R202. -/
def rl (a : Byte) (c : Bool) : Rot := ⟨(a <<< 1) ||| BitVec.ofNat 8 c.toNat, a.getLsbD 7⟩

/-- R203. -/
def rr (a : Byte) (c : Bool) : Rot := ⟨(a >>> 1) ||| (BitVec.ofNat 8 c.toNat <<< 7), a.getLsbD 0⟩

/-- R204. -/
def sla (a : Byte) : Rot := ⟨a <<< 1, a.getLsbD 7⟩

/-- R205: bit 7 is kept. -/
def sra (a : Byte) : Rot := ⟨(a >>> 1) ||| (a &&& 0x80#8), a.getLsbD 0⟩

/-- R206. -/
def swap (a : Byte) : Rot := ⟨(a <<< 4) ||| (a >>> 4), false⟩

/-- R207. -/
def srl (a : Byte) : Rot := ⟨a >>> 1, a.getLsbD 0⟩

/-- The byte of F with the given flags: bits 7..4 are Z, N, H, C and bits 3:0 are 0 (R11). -/
def flagByte (z n h c : Bool) : Byte :=
  BitVec.ofNat 8 (z.toNat * 0x80 + n.toNat * 0x40 + h.toNat * 0x20 + c.toNat * 0x10)

/-- The byte with bit b alone set: `1 << b` (R240 to R245). -/
def bitMask (b : BitVec 3) : Byte := 1#8 <<< b.toNat

end Sys2Proof.Machine
end

