-- ==== Sys2Proof/Config.lean ====
section
/-! DEFINITION. The named parameters of spec/00_scope.md R7 that are functions or fixed register values, with their
defaults. The cartridge parameter CART is plain data in the state (Machine/State.lean); END_PC is an argument of
`Sys2Proof.Machine.atEnd` and `Sys2Proof.Machine.runToEnd` (Machine/Run.lean). -/

namespace Sys2Proof

/-- The parameters the APU and the environment take (R7), and one of the model's own. No instruction depends on them. -/
structure Config.Params where
  /-- ENV_REGS: the MMIO addresses the environment may write between ticks (R5). -/
  envRegs : Word → Bool
  /-- SWEEP_TIME_TABLE: NR10[6:4] to seconds (R354). -/
  sweepTime : BitVec 3 → Rat
  /-- WAVE_FREQ_NUM: the numerator of the wave voice's frequency (R337). -/
  waveFreqNum : Rat
  /-- NOISE_FREQ: NR43 to Hz (R338). -/
  noiseFreq : Byte → Rat
  /-- MASTER_VOLUME: NR50 to (left, right) (R351). -/
  masterVolume : Byte → Rat × Rat
  /-- MODEL'S OWN: whether a run calls the master volume before the calls of the voices, as the pseudocode of R330 has it,
  or after them, as D48 has it. DEDUCED: the default is D48's order (log 12). -/
  masterVolumeFirst : Bool

/-- ENV_REGS default: 0xFF00 to 0xFF07 and 0xFF40 to 0xFF4B (R5, R7). -/
def Config.defaultEnvRegs (a : Word) : Bool :=
  decide (0xFF00 ≤ a.toNat ∧ a.toNat ≤ 0xFF07) || decide (0xFF40 ≤ a.toNat ∧ a.toNat ≤ 0xFF4B)

/-- SWEEP_TIME_TABLE default: the literals of R354 read as exact decimals. -/
def Config.defaultSweepTime (code : BitVec 3) : Rat :=
  ([0, 78 / 10000, 156 / 10000, 234 / 10000, 313 / 10000, 391 / 10000, 469 / 10000, 547 / 10000] : List Rat).getD
    code.toNat 0

/-- NOISE_FREQ default (R338): `524288 / r' / 2^(s + 1)` with s = NR43[7:4], r = NR43[2:0], and r' = r, or 1/2 when
r = 0. -/
def Config.defaultNoiseFreq (v : Byte) : Rat :=
  let s := (v.extractLsb' 4 4).toNat
  let r := (v.extractLsb' 0 3).toNat
  let divisor : Rat := if r = 0 then 1 / 2 else (r : Rat)
  524288 / divisor / ((2 ^ (s + 1) : Nat) : Rat)

/-- MASTER_VOLUME default (R351): `((v[6:4] + 1) / 8, (v[2:0] + 1) / 8)`, left then right. -/
def Config.defaultMasterVolume (v : Byte) : Rat × Rat :=
  ((((v.extractLsb' 4 3).toNat + 1 : Nat) : Rat) / 8, (((v.extractLsb' 0 3).toNat + 1 : Nat) : Rat) / 8)

/-- Every parameter at its default (R7). -/
def Config.default : Config.Params where
  envRegs := Config.defaultEnvRegs
  sweepTime := Config.defaultSweepTime
  waveFreqNum := 65536
  noiseFreq := Config.defaultNoiseFreq
  masterVolume := Config.defaultMasterVolume
  masterVolumeFirst := false

/-- RESET_REGS: the CPU register values at reset (R7, R400). -/
structure Config.ResetRegs where
  a : Byte
  f : Byte
  b : Byte
  c : Byte
  d : Byte
  e : Byte
  h : Byte
  l : Byte
  sp : Word
  deriving DecidableEq, Repr

/-- RESET_REGS default: the DMG post-boot values (R10, R11, R14, R400). -/
def Config.defaultResetRegs : Config.ResetRegs where
  a := 0x01#8
  f := 0xB0#8
  b := 0x00#8
  c := 0x13#8
  d := 0x00#8
  e := 0xD8#8
  h := 0x01#8
  l := 0x4D#8
  sp := 0xFFFE#16

end Sys2Proof
end

