-- ==== Sys2Proof/Machine/State.lean ====
section
/-! DEFINITION. The state of the machine as plain data, the reasons a step can stop, and the state after reset.
Every piece of state of spec/10_state.md is here; INVENTORY.md lists each with its rule. -/

namespace Sys2Proof.Machine

/-! ### Why a step stops (spec/60_exceptions.md R300) -/

/-- The two opcode spaces of an `UnknownOpcode` fault. -/
inductive OpcodeSpace where
  | base
  | prefixed
  deriving DecidableEq, Repr

/-- The two access kinds of a `MemoryFault`. -/
inductive AccessKind where
  | read
  | write
  deriving DecidableEq, Repr

/-- The synchronous faults of `Step()` (R300). Both are the spec's own: the machine stops where the spec says it does. -/
inductive Fault where
  /-- Code 1. Raised by the 11 undefined base opcodes (R91, R275) and by nothing else; `prefixed` never occurs (R91).
  Safe: the spec ends the run here. -/
  | unknownOpcode (space : OpcodeSpace) (byte : Byte)
  /-- Code 2. Raised by any access to a cartridge range that CART refuses: a fetch, an operand, the stack or the push of
  an interrupt service (R53, R302). Safe: the spec ends the run here. -/
  | memoryFault (addr : Word) (op : AccessKind)
  deriving DecidableEq, Repr

/-- Refusals. No meaning of this model refuses. -/
inductive Refusal where
  /-- Raised only by an arm of `exec` whose instruction has no meaning yet; there is none. Safe: it stops. -/
  | notModelled (mnemonic : String)
  deriving DecidableEq, Repr

/-- Run status (R19): model bookkeeping of the spec, not visible to a program. -/
inductive RunStatus where
  | running
  | faulted (f : Fault)
  deriving DecidableEq, Repr

/-! ### Memory and the cartridge -/

/-- The stored bytes of the address space that differ from what an unlisted address reads as (`Memory.unlisted`), sorted
by address. It holds the ROM image, VRAM, WRAM, OAM, HRAM and the value of every MMIO handle. -/
abbrev Memory := List Host.Cell

/-- The write counters of the MMIO handles (R29, R62), by address; an unlisted handle has version 0. -/
abbrev Versions := List (Nat × Nat)

/-- One row of the cartridge's read function (R53): at an internal state (`none`: at every one) and an address, the byte
it answers, or `none` where it refuses. -/
structure CartRead where
  state : Option Nat
  addr : Word
  answer : Option Byte
  deriving DecidableEq, Repr

/-- One row of the cartridge's write function (R53): at an internal state, an address and a byte written (`none`: any),
the next internal state, or `none` where it refuses. -/
structure CartWrite where
  state : Option Nat
  addr : Word
  value : Option Byte
  answer : Option Nat
  deriving DecidableEq, Repr

/-- The parameter CART (R7, R53) as plain data: its internal state, and the rows on which its read and write functions
differ from those of the default cartridge (ROM-only, no external RAM, never refusing). The first row that matches
answers. The ROM image itself is in `State.mem`. -/
structure Cart where
  state : Nat
  reads : List CartRead
  writes : List CartWrite
  deriving DecidableEq, Repr

/-- The default CART (R53). -/
def Cart.default : Cart where
  state := 0
  reads := []
  writes := []

/-! ### The APU (spec/10_state.md R40 to R42) -/

/-- The four voices, in index order 0 to 3 (R37). -/
inductive VoiceId where
  | pulseA
  | pulseB
  | wave
  | noise
  deriving DecidableEq, Repr

/-- Stereo position: −1, 0 or +1 (R41). -/
inductive Pan where
  | left
  | centre
  | right
  deriving DecidableEq, Repr

/-- The fields every voice holds (R41). -/
structure Voice where
  frequency : Rat
  amplitude : Rat
  pan : Pan
  muted : Bool
  stopped : Bool
  triggered : Bool
  leftOn : Bool
  rightOn : Bool
  deriving DecidableEq, Repr

/-- An envelope: the last parameter pack loaded, and the seconds since its last reset (R42). -/
structure Envelope (P : Type) where
  params : Option P
  elapsed : Rat
  deriving DecidableEq, Repr

/-- The parameter pack of an amplitude envelope (R42). -/
structure AmpPack where
  startStep : BitVec 4
  increasing : Bool
  n : BitVec 3
  deriving DecidableEq, Repr

/-- The parameter pack of a length envelope (R42). -/
structure LenPack where
  enabled : Bool
  duration : Rat
  deriving DecidableEq, Repr

/-- The parameter pack of the frequency sweep envelope (R42). -/
structure SweepPack where
  startBits : BitVec 11
  sweepIncreasing : Bool
  sweepShifts : BitVec 3
  sweepTime : Rat
  deriving DecidableEq, Repr

/-- Voice 0, Pulse-A (R41, R42). -/
structure PulseA where
  voice : Voice
  pulseWidth : Rat
  amp : Envelope AmpPack
  len : Envelope LenPack
  sweep : Envelope SweepPack
  deriving DecidableEq, Repr

/-- Voice 1, Pulse-B (R41, R42). -/
structure PulseB where
  voice : Voice
  pulseWidth : Rat
  amp : Envelope AmpPack
  len : Envelope LenPack
  deriving DecidableEq, Repr

/-- Voice 2, Wave (R41, R42). -/
structure Wave where
  voice : Voice
  len : Envelope LenPack
  deriving DecidableEq, Repr

/-- Voice 3, Noise (R41, R42). -/
structure Noise where
  voice : Voice
  amp : Envelope AmpPack
  len : Envelope LenPack
  deriving DecidableEq, Repr

/-- The APU's own state (R40 to R42). -/
structure Apu where
  masterPrev : Bool
  waveKey : Option (Nat × BitVec 2)
  pulseA : PulseA
  pulseB : PulseB
  wave : Wave
  noise : Noise
  deriving DecidableEq, Repr

/-- Every voice field at its reset value (R403). -/
def Voice.reset : Voice where
  frequency := 0
  amplitude := 0
  pan := .centre
  muted := false
  stopped := false
  triggered := false
  leftOn := false
  rightOn := false

/-- An envelope at reset: no pack, elapsed 0 (R403). -/
def Envelope.reset {P : Type} : Envelope P where
  params := none
  elapsed := 0

/-- The APU at reset (R403); NR52 bit 7 is 1 at reset, so `masterPrev` is true. -/
def Apu.reset : Apu where
  masterPrev := true
  waveKey := none
  pulseA := { voice := .reset, pulseWidth := 0, amp := .reset, len := .reset, sweep := .reset }
  pulseB := { voice := .reset, pulseWidth := 0, amp := .reset, len := .reset }
  wave := { voice := .reset, len := .reset }
  noise := { voice := .reset, amp := .reset, len := .reset }

/-! ### The outside world -/

/-- A call of the sink output port (R353). -/
inductive SinkCall where
  | start (v : VoiceId)
  | stop (v : VoiceId)
  | setFrequency (v : VoiceId) (hz : Rat)
  | rampFrequency (v : VoiceId) (hz seconds : Rat)
  | setAmplitude (v : VoiceId) (x : Rat)
  | rampAmplitude (v : VoiceId) (x seconds : Rat)
  | setPulseWidth (v : VoiceId) (x : Rat)
  | setWavetable (v : VoiceId) (samples : List Rat)
  | rampPan (v : VoiceId) (pan : Pan) (seconds : Rat)
  | setMasterVolume (left right : Rat)
  deriving DecidableEq, Repr

/-- One thing the environment may do between two ticks (R5). -/
inductive EnvMove where
  /-- Set bits of IF 4:0 to 1. -/
  | requestIrq (bits : BitVec 5)
  /-- Write a byte to a handle of ENV_REGS. -/
  | writeReg (addr : Word) (v : Byte)
  /-- Write a byte to an OAM address. -/
  | writeOam (addr : Word) (v : Byte)
  /-- Change the cartridge's internal state. -/
  | setCart (state : Nat)
  deriving DecidableEq, Repr

/-! ### The state -/

/-- The whole machine. -/
structure State where
  /-- The general registers and F (R10, R11). -/
  a : Byte
  f : Byte
  b : Byte
  c : Byte
  d : Byte
  e : Byte
  h : Byte
  l : Byte
  /-- R14. -/
  sp : Word
  /-- R13. -/
  pc : Word
  /-- Interrupt master enable (R15). -/
  ime : Bool
  /-- The EI latch `ei_delay` (R16). -/
  eiDelay : Bool
  /-- R17. -/
  halted : Bool
  /-- R18. -/
  stopped : Bool
  /-- Run status (R19). -/
  status : RunStatus
  /-- All stored bytes: ROM image, VRAM, WRAM, OAM, HRAM, handle values (R25 to R38, R53). -/
  mem : Memory
  /-- The handles' version counters (R29). -/
  versions : Versions
  /-- The cartridge (R39, R53). -/
  cart : Cart
  /-- The APU (R40 to R42). -/
  apu : Apu
  /-- MODEL'S OWN: the step-local `arm` of R85, false between steps. DESIGN CHOICE, safe (log 6). -/
  arm : Bool
  /-- MODEL'S OWN: the machine cycles the last `Step()` returned (R85). DESIGN CHOICE, safe (log 6). -/
  cycles : Nat
  /-- MODEL'S OWN: the environment's moves to come, one list a tick (R5). DESIGN CHOICE (log 3). -/
  env : List (List EnvMove)
  /-- MODEL'S OWN: the calls the output port has made, oldest first (R353). DESIGN CHOICE, safe (log 4). -/
  sink : List SinkCall
  deriving DecidableEq, Repr

/-- The state at launch (R400), for given CPU register values, cartridge, stored bytes and environment. `mem` carries the
ROM image and every draw of R400; what it does not list is at `Memory.unlisted`. The spec gives no order of the four
`start()` calls (R403); the model takes the voices' index order. DESIGN CHOICE, unsafe (log 4). The spec does not say what a
RESET_REGS whose F has a bit of 3:0 set gives; the launch clears those bits, so that R11 holds. DESIGN CHOICE, safe
(log 17). -/
def State.launch (r : Config.ResetRegs) (cart : Cart) (mem : Memory) (env : List (List EnvMove)) : State where
  a := r.a
  f := r.f &&& 0xF0#8
  b := r.b
  c := r.c
  d := r.d
  e := r.e
  h := r.h
  l := r.l
  sp := r.sp
  pc := 0x0100#16
  ime := false
  eiDelay := false
  halted := false
  stopped := false
  status := .running
  mem := mem
  versions := []
  cart := cart
  apu := .reset
  arm := false
  cycles := 0
  env := env
  sink := [.start .pulseA, .start .pulseB, .start .wave, .start .noise]

/-- The machine right after reset (R400): default registers and cartridge, nothing listed in memory, no move of the
environment to come. DESIGN CHOICE, unsafe: a draw reads as `Memory.unlisted` (logs 1 and 2). -/
def State.reset : State :=
  State.launch Config.defaultResetRegs Cart.default [] []

end Sys2Proof.Machine
end

