-- ==== Sys2Proof/Machine/Ops.lean ====
section
/-! DEFINITION. The named operations over memory and registers (spec/20_memory.md, spec/10_state.md), and taking an
interrupt and returning from one (spec/60_exceptions.md section 2). -/

namespace Sys2Proof.Machine

/-- What a step or a meaning answers. -/
abbrev Answer := Host.Outcome State Fault Refusal

/-! ### Sparse lists in canonical form -/

/-- The value at a key; `d` is what an unlisted key reads as. -/
def Cells.get {α : Type} (d : Nat → α) : List (Nat × α) → Nat → α
  | [], a => d a
  | (k, v) :: rest, a => if k = a then v else Cells.get d rest a

/-- Set the value at a key, keeping keys rising and listing no value equal to `d`'s. -/
def Cells.put {α : Type} [DecidableEq α] (d : Nat → α) : List (Nat × α) → Nat → α → List (Nat × α)
  | [], a, v => if v = d a then [] else [(a, v)]
  | (k, w) :: rest, a, v =>
    if a < k then (if v = d a then (k, w) :: rest else (a, v) :: (k, w) :: rest)
    else if a = k then (if v = d a then rest else (a, v) :: rest)
    else (k, w) :: Cells.put d rest a v

/-- The canonical form: keys strictly rising, each in the domain, no value equal to `d`'s. -/
abbrev Cells.Wf {α : Type} [DecidableEq α] (d : Nat → α) (dom : Nat → Bool) (m : List (Nat × α)) : Prop :=
  m.Pairwise (fun x y => x.1 < y.1) ∧ ∀ c ∈ m, dom c.1 = true ∧ c.2 ≠ d c.1

/-! ### The address space (R50 to R53) -/

/-- The regions of R51 and R52; `ie` is the handle 0xFFFF. -/
inductive Region where
  | rom
  | vram
  | extRam
  | wram
  | echo
  | oam
  | prohibited
  | io
  | hram
  | ie
  deriving DecidableEq, Repr

/-- The region of an address (R51, R52). -/
def regionOf (a : Word) : Region :=
  let n := a.toNat
  if n < 0x8000 then .rom
  else if n < 0xA000 then .vram
  else if n < 0xC000 then .extRam
  else if n < 0xE000 then .wram
  else if n < 0xFE00 then .echo
  else if n < 0xFEA0 then .oam
  else if n < 0xFF00 then .prohibited
  else if n < 0xFF80 then .io
  else if n < 0xFFFF then .hram
  else .ie

/-- The address whose stored byte an address names: an echo address names the byte 0x2000 below (R51). -/
def storageAddr (a : Word) : Nat :=
  if 0xE000 ≤ a.toNat ∧ a.toNat < 0xFE00 then a.toNat - 0x2000 else a.toNat

/-- The addresses with a stored byte of their own: all but external RAM, echo RAM and the prohibited range (R25 to R29,
R53). -/
def hasStorage (n : Nat) : Bool :=
  decide (n < 0xA000) || decide (0xC000 ≤ n ∧ n < 0xE000) || decide (0xFE00 ≤ n ∧ n < 0xFEA0) ||
    decide (0xFF00 ≤ n ∧ n < 0x10000)

/-- The addresses that are MMIO handles (R29, R60). -/
def isHandle (n : Nat) : Bool := decide (0xFF00 ≤ n ∧ n < 0xFF80) || decide (n = 0xFFFF)

/-- What an unlisted address reads as: the reset contents. The sound registers have the values of R32 to R37, IE 0x00
(R31), an address without storage 0xFF (R51, R53). Every other byte is a draw of R400 or part of the ROM image, and is
0x00 here. DESIGN CHOICE, unsafe (logs 1 and 2). -/
def Memory.unlisted (n : Nat) : Byte :=
  if 0xFF10 ≤ n ∧ n ≤ 0xFF26 then
    ([0x80#8, 0xBF#8, 0xF3#8, 0xFF#8, 0xBF#8, 0x00#8,
      0x3F#8, 0x00#8, 0xFF#8, 0xBF#8,
      0x7F#8, 0xFF#8, 0x9F#8, 0xFF#8, 0xBF#8, 0x00#8,
      0xFF#8, 0x00#8, 0x00#8, 0xBF#8,
      0x77#8, 0xF3#8, 0xF1#8] : List Byte).getD (n - 0xFF10) 0x00#8
  else if hasStorage n then 0x00#8
  else 0xFF#8

/-- The stored byte at an address. -/
def Memory.get (m : Memory) (n : Nat) : Byte := Cells.get Memory.unlisted m n

/-- Store a byte, keeping the canonical form. -/
def Memory.put (m : Memory) (n : Nat) (v : Byte) : Memory := Cells.put Memory.unlisted m n v

/-- The canonical form of memory: addresses strictly rising, each with storage, none listed at its unlisted value. -/
abbrev Memory.wf (m : Memory) : Prop := Cells.Wf Memory.unlisted hasStorage m

/-- The version of the handle at an address (R29). -/
def Versions.get (m : Versions) (n : Nat) : Nat := Cells.get (fun _ => 0) m n

/-- Set a version, keeping the canonical form. -/
def Versions.put (m : Versions) (n : Nat) (v : Nat) : Versions := Cells.put (fun _ => 0) m n v

/-- The canonical form of the version counters: only handles, rising, none listed at 0. -/
abbrev Versions.wf (m : Versions) : Prop := Cells.Wf (fun _ => 0) isHandle m

/-! ### Handles (R60 to R63) -/

/-- `handle[a].value`. -/
def handleValue (s : State) (a : Word) : Byte := Memory.get s.mem a.toNat

/-- `handle[a].version`. -/
def handleVersion (s : State) (a : Word) : Nat := Versions.get s.versions a.toNat

/-- `HandleWrite(a, v)` (R61): store the byte, add 1 to the version, nothing else. -/
def handleWrite (s : State) (a : Word) (v : Byte) : State :=
  { s with mem := Memory.put s.mem a.toNat v,
           versions := Versions.put s.versions a.toNat (handleVersion s a + 1) }

/-- `reg[i] <- b` (R63): one handle write of the value with bit i replaced. -/
def handleBitWrite (s : State) (a : Word) (i : Nat) (b : Bool) : State :=
  handleWrite s a ((handleValue s a &&& ~~~(1#8 <<< i)) ||| (BitVec.ofNat 8 b.toNat <<< i))

/-! The addresses of the named handles (R30 to R37, R69). -/

abbrev ioIF : Word := 0xFF0F#16
abbrev ioIE : Word := 0xFFFF#16
abbrev ioNR10 : Word := 0xFF10#16
abbrev ioNR11 : Word := 0xFF11#16
abbrev ioNR12 : Word := 0xFF12#16
abbrev ioNR13 : Word := 0xFF13#16
abbrev ioNR14 : Word := 0xFF14#16
abbrev ioNR21 : Word := 0xFF16#16
abbrev ioNR22 : Word := 0xFF17#16
abbrev ioNR23 : Word := 0xFF18#16
abbrev ioNR24 : Word := 0xFF19#16
abbrev ioNR30 : Word := 0xFF1A#16
abbrev ioNR31 : Word := 0xFF1B#16
abbrev ioNR32 : Word := 0xFF1C#16
abbrev ioNR33 : Word := 0xFF1D#16
abbrev ioNR34 : Word := 0xFF1E#16
abbrev ioNR41 : Word := 0xFF20#16
abbrev ioNR42 : Word := 0xFF21#16
abbrev ioNR43 : Word := 0xFF22#16
abbrev ioNR44 : Word := 0xFF23#16
abbrev ioNR50 : Word := 0xFF24#16
abbrev ioNR51 : Word := 0xFF25#16
abbrev ioNR52 : Word := 0xFF26#16
abbrev ioWaveRam : Word := 0xFF30#16

/-! ### The cartridge (R53) -/

/-- `CART.read(cs, a)`; `none` is a refusal. The default reads the ROM image below 0x8000 and 0xFF above. -/
def cartRead (s : State) (a : Word) : Option Byte :=
  match s.cart.reads.find? (fun r => (r.state.isNone || r.state == some s.cart.state) && r.addr == a) with
  | some r => r.answer
  | none => if a.toNat < 0x8000 then some (Memory.get s.mem a.toNat) else some 0xFF#8

/-- `CART.write(cs, a, v)`; `none` is a refusal. The default changes nothing. -/
def cartWrite (s : State) (a : Word) (v : Byte) : Option State :=
  match s.cart.writes.find? (fun r => (r.state.isNone || r.state == some s.cart.state) && r.addr == a &&
      (r.value.isNone || r.value == some v)) with
  | some r => r.answer.map (fun cs => { s with cart := { s.cart with state := cs } })
  | none => some s

/-! ### Bus accesses (R51, R52, R54 to R57) -/

/-- `MemRead(a, 1)` (R51). A read changes no state. -/
def memRead (s : State) (a : Word) : Except Fault Byte :=
  match regionOf a with
  | .rom | .extRam =>
    match cartRead s a with
    | some v => .ok v
    | none => .error (.memoryFault a .read)
  | .prohibited => .ok 0xFF#8
  | .io | .ie => .ok (handleValue s a)
  | .vram | .wram | .echo | .oam | .hram => .ok (Memory.get s.mem (storageAddr a))

/-- `MemWrite(a, 1, v)` (R52). -/
def memWrite (s : State) (a : Word) (v : Byte) : Except Fault State :=
  match regionOf a with
  | .rom | .extRam =>
    match cartWrite s a v with
    | some s' => .ok s'
    | none => .error (.memoryFault a .write)
  | .prohibited => .ok s
  | .io | .ie => .ok (handleWrite s a v)
  | .vram | .wram | .echo | .oam | .hram => .ok { s with mem := Memory.put s.mem (storageAddr a) v }

/-- `MemWrite(a, 2, w)` (R55): the low byte first, then the high byte at the next address mod 2^16. -/
def memWrite16 (s : State) (a w : Word) : Except Fault State :=
  match memWrite s a (loByte w) with
  | .ok s1 => memWrite s1 (a + 1#16) (hiByte w)
  | .error f => .error f

/-- `MemRead(a, 2)` (R54): little-endian, the second address mod 2^16. -/
def memRead16 (s : State) (a : Word) : Except Fault Word :=
  match memRead s a with
  | .ok lo =>
    match memRead s (a + 1#16) with
    | .ok hi => .ok (joinWord hi lo)
    | .error f => .error f
  | .error f => .error f

/-- Go on with what a bus access gives, or end the step with its fault (R301). -/
def andThen {α : Type} (x : Except Fault α) (k : α → Answer) : Answer :=
  match x with
  | .ok v => k v
  | .error f => .fault f

/-- The end of an instruction's effect: `return m` (R85). -/
def finish (m : Nat) (s : State) : Answer := .next { s with cycles := m }

/-- `Push16(w)` (R56): SP goes down by 2, mod 2^16 (D16), and the word is stored there, so at SP = 0x0000 the bytes go to
0xFFFE and 0xFFFF. A corner case of R256 says that SP = 0x0000 puts bytes into the ROM range; the model follows the
pseudocode. DEDUCED, unsafe (log 16). -/
def push16 (s : State) (w : Word) : Except Fault State :=
  memWrite16 { s with sp := s.sp - 2#16 } (s.sp - 2#16) w

/-- `Pop16()` (R57): the word, and the state with SP moved. -/
def pop16 (s : State) : Except Fault (Word × State) :=
  match memRead16 s s.sp with
  | .ok w => .ok (w, { s with sp := s.sp + 2#16 })
  | .error f => .error f

/-! ### Registers (R10 to R12) -/

/-- Read a general register. -/
def State.getReg (s : State) : Reg8 → Byte
  | .b => s.b
  | .c => s.c
  | .d => s.d
  | .e => s.e
  | .h => s.h
  | .l => s.l
  | .a => s.a

/-- Write a general register. -/
def State.setReg (s : State) (r : Reg8) (v : Byte) : State :=
  match r with
  | .b => { s with b := v }
  | .c => { s with c := v }
  | .d => { s with d := v }
  | .e => { s with e := v }
  | .h => { s with h := v }
  | .l => { s with l := v }
  | .a => { s with a := v }

/-- The pair HL, the high register the high byte (R12). -/
def State.hl (s : State) : Word := joinWord s.h s.l

/-- The pair BC (R12). -/
def State.bc (s : State) : Word := joinWord s.b s.c

/-- The pair DE (R12). -/
def State.de (s : State) : Word := joinWord s.d s.e

/-- The pair AF (R12). -/
def State.af (s : State) : Word := joinWord s.a s.f

/-- Write F: only bits 7:4 are stored (R11). -/
def State.setF (s : State) (v : Byte) : State := { s with f := v &&& 0xF0#8 }

/-- Read `rp(p)` (R12, R82). -/
def State.getPair (s : State) : Pair → Word
  | .bc => s.bc
  | .de => s.de
  | .hl => s.hl
  | .sp => s.sp

/-- Write `rp(p)`: a pair splits into its registers (R12). -/
def State.setPair (s : State) (p : Pair) (w : Word) : State :=
  match p with
  | .bc => { s with b := hiByte w, c := loByte w }
  | .de => { s with d := hiByte w, e := loByte w }
  | .hl => { s with h := hiByte w, l := loByte w }
  | .sp => { s with sp := w }

/-- Read `rp2(p)` (R12, R82). -/
def State.getStackPair (s : State) : StackPair → Word
  | .bc => s.bc
  | .de => s.de
  | .hl => s.hl
  | .af => s.af

/-- Write `rp2(p)`; writing AF stores `w & 0xFFF0` (R12). -/
def State.setStackPair (s : State) (p : StackPair) (w : Word) : State :=
  match p with
  | .bc => { s with b := hiByte w, c := loByte w }
  | .de => { s with d := hiByte w, e := loByte w }
  | .hl => { s with h := hiByte w, l := loByte w }
  | .af => { s with a := hiByte w, f := loByte w &&& 0xF0#8 }

/-- F.Z (R11). -/
def State.flagZ (s : State) : Bool := s.f.getLsbD 7

/-- F.N (R11). -/
def State.flagN (s : State) : Bool := s.f.getLsbD 6

/-- F.H (R11). -/
def State.flagH (s : State) : Bool := s.f.getLsbD 5

/-- F.C (R11). -/
def State.flagC (s : State) : Bool := s.f.getLsbD 4

/-- Write the four flags; F's bits 3:0 become 0 (R11, R149). -/
def State.setFlags (s : State) (z n h c : Bool) : State := { s with f := flagByte z n h c }

/-- `cond(c)` (R250). -/
def State.cond (s : State) : Cond → Bool
  | .nz => !s.flagZ
  | .z => s.flagZ
  | .nc => !s.flagC
  | .c => s.flagC

/-! ### Interrupts (R310 to R319) -/

/-- `pending` (R312): IF & IE & 0x1F. -/
def pending (s : State) : Byte := handleValue s ioIF &&& handleValue s ioIE &&& 0x1F#8

/-- The source serviced: the lowest i with `pending[i] = 1` (R315). -/
def lowestPending (p : Byte) : Nat :=
  if p.getLsbD 0 then 0
  else if p.getLsbD 1 then 1
  else if p.getLsbD 2 then 2
  else if p.getLsbD 3 then 3
  else 4

/-- The vector of source i (R30, R314). -/
def vectorOf (i : Nat) : Word := BitVec.ofNat 16 (0x0040 + 8 * i)

/-- `ServiceInterrupt(i)` (R314), the one way the machine takes an interrupt: push PC, go to the vector, clear IME and
`ei_delay`, then clear IF[i] in the value the push left there. It takes 5 machine cycles. -/
def serviceInterrupt (s : State) (i : Nat) : Answer :=
  andThen (push16 s s.pc) fun s1 =>
    finish 5 (handleWrite { s1 with pc := vectorOf i, ime := false, eiDelay := false } ioIF
      (handleValue s1 ioIF &&& ~~~(1#8 <<< i)))

/-- The return of `RET`, `RET cc` and `RETI`: PC from the stack (R258); `RETI` also sets IME at once (R260). -/
def returnFrom (s : State) (setIme : Bool) (m : Nat) : Answer :=
  andThen (pop16 s) fun r => finish m { r.2 with pc := r.1, ime := r.2.ime || setIme }

end Sys2Proof.Machine
end

