-- ==== Sys2Proof/Machine/Apu.lean ====
section
/-! DEFINITION. The APU (spec/60_exceptions.md section 4, R330 to R355). Seconds, Hz and amplitudes are exact rationals
(R331). -/

namespace Sys2Proof.Machine

/-! ### Output port (R353) -/

/-- One call of the output port. -/
def emit (s : State) (c : SinkCall) : State := { s with sink := s.sink ++ [c] }

/-- The 10 ms ramp of every ramp call (R348). -/
def rampTime : Rat := 1 / 100

/-! ### Register derivations (R335 to R339, R349, R354) -/

/-- `bits(lo, hi)`: the 11-bit frequency value (R335). -/
def freqBits (s : State) (lo hi : Word) : BitVec 11 :=
  (handleValue s hi).extractLsb' 0 3 ++ handleValue s lo

/-- `bitsToFrequency` (R339), in Hz. -/
def bitsToFrequency (bits : Nat) : Rat := 131072 / ((2048 : Rat) - (bits : Rat))

/-- `frequencyToBits(f) = round(2048 − 131072 / f)`, rounding to the nearest integer (R339). The spec does not say which
way a value exactly between two integers goes; the model rounds it up. DESIGN CHOICE, safe (log 14). -/
def frequencyToBits (f : Rat) : Int := (2048 - 131072 / f + 1 / 2).floor

/-- `DUTY` (R349), by the duty code NRx1[7:6]. -/
def dutyOf (nrx1 : Byte) : Rat :=
  ([1 / 8, 1 / 4, 1 / 2, 3 / 4] : List Rat).getD (nrx1.extractLsb' 6 2).toNat (1 / 8)

/-- The amplitude pack of NRx2 (R335). -/
def ampPack (nrx2 : Byte) : AmpPack where
  startStep := nrx2.extractLsb' 4 4
  increasing := nrx2.getLsbD 3
  n := nrx2.extractLsb' 0 3

/-- The length pack of a pulse or noise voice: `(NRx4[6], (64 − NRx1[5:0]) / 256)` (R335, R336, R338). -/
def shortLenPack (nrx1 nrx4 : Byte) : LenPack where
  enabled := nrx4.getLsbD 6
  duration := (64 - ((nrx1.extractLsb' 0 6).toNat : Rat)) / 256

/-- The length pack of the wave voice: `(NR34[6], (256 − NR31) / 256)` (R337). -/
def waveLenPack (nr31 nr34 : Byte) : LenPack where
  enabled := nr34.getLsbD 6
  duration := (256 - (nr31.toNat : Rat)) / 256

/-- The sweep pack of Pulse-A (R335). -/
def sweepPackOf (P : Config.Params) (s : State) : SweepPack where
  startBits := freqBits s ioNR13 ioNR14
  sweepIncreasing := (handleValue s ioNR10).getLsbD 3
  sweepShifts := (handleValue s ioNR10).extractLsb' 0 3
  sweepTime := P.sweepTime ((handleValue s ioNR10).extractLsb' 4 3)

/-! ### Envelopes (R340 to R345, R355) -/

/-- The status of an envelope (R340 to R342). `deactivated` of the sweep is the EnvelopeUnderflow of R355. -/
inductive EnvStatus where
  | active
  | deactivated
  | notApplicable
  deriving DecidableEq, Repr

/-- `LoadParams(e, p)` (R343): a pack that differs from the last one resets the envelope. -/
def loadParams {P : Type} [DecidableEq P] (e : Envelope P) (p : P) : Envelope P :=
  if e.params = some p then e else { params := some p, elapsed := 0 }

/-- Load, the trigger's reset, then the advance by `dt` (R334, R343, R344). -/
def runEnvelope {P : Type} [DecidableEq P] (e : Envelope P) (p : P) (edge : Bool) (dt : Rat) : Envelope P :=
  let e1 := loadParams e p
  { params := e1.params, elapsed := (if edge then 0 else e1.elapsed) + dt }

/-- `clamp(x, lo, hi)` (R8). -/
def clampInt (x lo hi : Int) : Int := min (max x lo) hi

/-- The amplitude step after `t` seconds (R340). -/
def ampStep (p : AmpPack) (t : Rat) : Int :=
  if p.n = 0#3 then (p.startStep.toNat : Int)
  else
    let k : Int := (t / ((p.n.toNat : Rat) / 64)).floor
    clampInt ((p.startStep.toNat : Int) + (if p.increasing then k else -k)) 0 15

/-- The voice amplitude of an amplitude envelope: step / 15 (R340). Its status is always active. -/
def ampValue (p : AmpPack) (t : Rat) : Rat := (ampStep p t : Rat) / 15

/-- The status of a length envelope after `t` seconds (R341). -/
def lenStatus (p : LenPack) (t : Rat) : EnvStatus :=
  if p.enabled = false ∨ p.duration = 0 then .notApplicable
  else if t ≥ p.duration then .deactivated
  else .active

/-- The swept bits after `t` seconds, on unbounded integers (R342). -/
def sweepBits (p : SweepPack) (t : Rat) : Nat :=
  let shift := (t / p.sweepTime).floor.toNat * p.sweepShifts.toNat
  if p.sweepIncreasing then p.startBits.toNat <<< shift else p.startBits.toNat >>> shift

/-- The status of the sweep envelope after `t` seconds (R342). -/
def sweepStatus (p : SweepPack) (t : Rat) : EnvStatus :=
  if p.sweepTime = 0 then .notApplicable
  else if sweepBits p t = 0 ∨ sweepBits p t > 2047 then .deactivated
  else .active

/-- The frequency the sweep gives the voice; deactivated, the voice keeps the one it had (R342). -/
def sweepFrequency (p : SweepPack) (t : Rat) (old : Rat) : Rat :=
  match sweepStatus p t with
  | .notApplicable => bitsToFrequency p.startBits.toNat
  | .active => bitsToFrequency (sweepBits p t)
  | .deactivated => old

/-! ### RunVoice (R334, R335 to R338, R345, R346) -/

/-- The rising edge of NRx4 bit 7 against the previous enabled run (R344). -/
def triggerEdge (v : Voice) (nrx4 : Byte) : Bool := nrx4.getLsbD 7 && !v.triggered

/-- The voice after a run: edge memory, `stopped = !playing`, and the evaluated fields (R334, R345). -/
def Voice.afterRun (v : Voice) (nrx4 : Byte) (playing : Bool) (frequency amplitude : Rat) : Voice :=
  { v with triggered := nrx4.getLsbD 7, stopped := !playing, frequency := frequency, amplitude := amplitude }

/-- `RunVoice(0, dt)`, Pulse-A (R334, R335). -/
def runPulseA (P : Config.Params) (dt : Rat) (s : State) : State :=
  let u := s.apu.pulseA
  let nr4 := handleValue s ioNR14
  let edge := triggerEdge u.voice nr4
  let sp := sweepPackOf P s
  let ap := ampPack (handleValue s ioNR12)
  let lp := shortLenPack (handleValue s ioNR11) nr4
  let sweep := runEnvelope u.sweep sp edge dt
  let amp := runEnvelope u.amp ap edge dt
  let len := runEnvelope u.len lp edge dt
  let playing := decide (sweepStatus sp sweep.elapsed ≠ .deactivated ∧ lenStatus lp len.elapsed ≠ .deactivated)
  let voice := u.voice.afterRun nr4 playing (sweepFrequency sp sweep.elapsed u.voice.frequency)
    (ampValue ap amp.elapsed)
  let unit : PulseA :=
    { voice := voice, pulseWidth := dutyOf (handleValue s ioNR11), amp := amp, len := len, sweep := sweep }
  handleBitWrite { s with apu := { s.apu with pulseA := unit } } ioNR52 0 playing

/-- `RunVoice(1, dt)`, Pulse-B (R334, R336). -/
def runPulseB (dt : Rat) (s : State) : State :=
  let u := s.apu.pulseB
  let nr4 := handleValue s ioNR24
  let edge := triggerEdge u.voice nr4
  let ap := ampPack (handleValue s ioNR22)
  let lp := shortLenPack (handleValue s ioNR21) nr4
  let amp := runEnvelope u.amp ap edge dt
  let len := runEnvelope u.len lp edge dt
  let playing := decide (lenStatus lp len.elapsed ≠ .deactivated)
  let voice := u.voice.afterRun nr4 playing (bitsToFrequency (freqBits s ioNR23 ioNR24).toNat)
    (ampValue ap amp.elapsed)
  let unit : PulseB := { voice := voice, pulseWidth := dutyOf (handleValue s ioNR21), amp := amp, len := len }
  handleBitWrite { s with apu := { s.apu with pulseB := unit } } ioNR52 1 playing

/-- `RunVoice(2, dt)`, Wave: amplitude 1, muted when NR30 bit 7 is 0 (R334, R337). -/
def runWave (P : Config.Params) (dt : Rat) (s : State) : State :=
  let u := s.apu.wave
  let nr4 := handleValue s ioNR34
  let edge := triggerEdge u.voice nr4
  let lp := waveLenPack (handleValue s ioNR31) nr4
  let len := runEnvelope u.len lp edge dt
  let playing := decide (lenStatus lp len.elapsed ≠ .deactivated)
  let voice := u.voice.afterRun nr4 playing
    (P.waveFreqNum / ((2048 : Rat) - ((freqBits s ioNR33 ioNR34).toNat : Rat))) 1
  let unit : Wave := { voice := { voice with muted := !(handleValue s ioNR30).getLsbD 7 }, len := len }
  handleBitWrite { s with apu := { s.apu with wave := unit } } ioNR52 2 playing

/-- `RunVoice(3, dt)`, Noise (R334, R338). -/
def runNoise (P : Config.Params) (dt : Rat) (s : State) : State :=
  let u := s.apu.noise
  let nr4 := handleValue s ioNR44
  let edge := triggerEdge u.voice nr4
  let ap := ampPack (handleValue s ioNR42)
  let lp := shortLenPack (handleValue s ioNR41) nr4
  let amp := runEnvelope u.amp ap edge dt
  let len := runEnvelope u.len lp edge dt
  let playing := decide (lenStatus lp len.elapsed ≠ .deactivated)
  let voice := u.voice.afterRun nr4 playing (P.noiseFreq (handleValue s ioNR43)) (ampValue ap amp.elapsed)
  let unit : Noise := { voice := voice, amp := amp, len := len }
  handleBitWrite { s with apu := { s.apu with noise := unit } } ioNR52 3 playing

/-! ### Mixing and output (R347 to R351) -/

/-- The pan of an on/off pair; with neither side on it keeps its value (R347). -/
def panOf (leftOn rightOn : Bool) (old : Pan) : Pan :=
  match leftOn, rightOn with
  | true, false => .left
  | false, true => .right
  | true, true => .centre
  | false, false => old

/-- The routing of voice i from NR51 (R347). -/
def Voice.route (v : Voice) (nr51 : Byte) (i : Nat) : Voice :=
  { v with rightOn := nr51.getLsbD i, leftOn := nr51.getLsbD (4 + i),
           pan := panOf (nr51.getLsbD (4 + i)) (nr51.getLsbD i) v.pan }

/-- `Route()` (R347). -/
def route (s : State) : State :=
  let r := handleValue s ioNR51
  let u := s.apu
  { s with apu := { u with
      pulseA := { u.pulseA with voice := u.pulseA.voice.route r 0 },
      pulseB := { u.pulseB with voice := u.pulseB.voice.route r 1 },
      wave := { u.wave with voice := u.wave.voice.route r 2 },
      noise := { u.noise with voice := u.noise.voice.route r 3 } } }

/-- `MasterVolume()` (R351), made where a run has its place for it, and nothing elsewhere. -/
def masterVolume (P : Config.Params) (here : Bool) (s : State) : State :=
  let v := P.masterVolume (handleValue s ioNR50)
  { s with sink := s.sink ++ if here then [.setMasterVolume v.1 v.2] else [] }

/-- The amplitude target of a voice (R348). -/
def Voice.target (v : Voice) : Rat :=
  if v.muted || v.stopped || (!v.leftOn && !v.rightOn) then 0 else v.amplitude

/-- The ramp calls that end `Update(i)`: frequency, amplitude, pan (R348). -/
def emitRamps (id : VoiceId) (v : Voice) (s : State) : State :=
  emit (emit (emit s (.rampFrequency id v.frequency rampTime)) (.rampAmplitude id v.target rampTime))
    (.rampPan id v.pan rampTime)

/-- `waveRamVersion`: the sum of the 16 wave-RAM versions (R350). -/
def waveRamVersion (s : State) : Nat :=
  ((List.range 16).map (fun k => handleVersion s (ioWaveRam + BitVec.ofNat 16 k))).sum

/-- Sample j of the wavetable: the high nibble of a byte first, shifted right, on [−1, +1] (R350). -/
def waveSample (s : State) (shift : Nat) (j : Nat) : Rat :=
  let byte := handleValue s (ioWaveRam + BitVec.ofNat 16 (j / 2))
  let nib := if j % 2 = 0 then (byte.extractLsb' 4 4).toNat else (byte.extractLsb' 0 4).toNat
  ((nib >>> shift : Nat) : Rat) / 15 * 2 - 1

/-- `PushWavetable()` (R350): only when the memo key changed. -/
def pushWavetable (s : State) : State :=
  let shift := (handleValue s ioNR32).extractLsb' 5 2
  let key := (waveRamVersion s, shift)
  if s.apu.waveKey = some key then s
  else
    let s1 := emit s (.setWavetable .wave ((List.range 32).map (waveSample s shift.toNat)))
    { s1 with apu := { s1.apu with waveKey := some key } }

/-- `Update(0)` (R348). -/
def updatePulseA (s : State) : State :=
  emitRamps .pulseA s.apu.pulseA.voice (emit s (.setPulseWidth .pulseA s.apu.pulseA.pulseWidth))

/-- `Update(1)` (R348). -/
def updatePulseB (s : State) : State :=
  emitRamps .pulseB s.apu.pulseB.voice (emit s (.setPulseWidth .pulseB s.apu.pulseB.pulseWidth))

/-- `Update(2)` (R348). -/
def updateWave (s : State) : State := emitRamps .wave s.apu.wave.voice (pushWavetable s)

/-- `Update(3)` (R348). -/
def updateNoise (s : State) : State := emitRamps .noise s.apu.noise.voice s

/-- `Update(i)` for i = 0, 1, 2, 3 (R330, R348). -/
def updateAll (s : State) : State := updateNoise (updateWave (updatePulseB (updatePulseA s)))

/-! ### The step (R330 to R333) -/

/-- The 21 sound registers NR10 to NR52 that a master disable clears (R333). -/
def soundRegs : List Word :=
  [ioNR10, ioNR11, ioNR12, ioNR13, ioNR14, ioNR21, ioNR22, ioNR23, ioNR24, ioNR30, ioNR31, ioNR32, ioNR33, ioNR34,
   ioNR41, ioNR42, ioNR43, ioNR44, ioNR50, ioNR51, ioNR52]

/-- A voice after a master disable (R333). -/
def Voice.silenced (v : Voice) : Voice := { v with stopped := true, triggered := false }

/-- One write of 0 to each sound register (R333). -/
def clearSoundRegs (s : State) : State := soundRegs.foldl (fun t a => handleWrite t a 0x00#8) s

/-- Every voice silenced (R333). -/
def silenceVoices (s : State) : State :=
  let u := s.apu
  { s with apu := { u with
      pulseA := { u.pulseA with voice := u.pulseA.voice.silenced },
      pulseB := { u.pulseB with voice := u.pulseB.voice.silenced },
      wave := { u.wave with voice := u.wave.voice.silenced },
      noise := { u.noise with voice := u.noise.voice.silenced } } }

/-- One amplitude ramp to 0 a sink (R333). -/
def rampAllToZero (s : State) : State :=
  ([.pulseA, .pulseB, .wave, .noise] : List VoiceId).foldl (fun t v => emit t (.rampAmplitude v 0 rampTime)) s

/-- `MasterDisable()` (R333): the registers cleared, the voices stopped with their trigger memory cleared, and the
amplitudes ramped to 0; envelopes and wave RAM are left alone. -/
def masterDisable (s : State) : State := rampAllToZero (silenceVoices (clearSoundRegs s))

/-- Set `masterPrev` (R330). -/
def setMasterPrev (b : Bool) (s : State) : State := { s with apu := { s.apu with masterPrev := b } }

/-- `APU.run(T)`, T in T-states (R330 to R332). It always ends, with a state. R353 observes the calls of the output port
in order. Its decision D48 has the calls of the voices and "Then one master-volume call", and that is the order at the
default parameters; the pseudocode of R330 and V-APU-1 have the master volume first, and that is the order where
`masterVolumeFirst` is set. DEDUCED, unsafe for claims about the place of that call (log 12). -/
def apuRun (P : Config.Params) (t : Rat) (s : State) : State :=
  let dt := t / 4194304
  if (handleValue s ioNR52).getLsbD 7 then
    masterVolume P (!P.masterVolumeFirst) (updateAll (masterVolume P P.masterVolumeFirst (route (runNoise P dt
      (runWave P dt (runPulseB dt (runPulseA P dt (setMasterPrev true s))))))))
  else
    setMasterPrev false (if s.apu.masterPrev then masterDisable s else s)

end Sys2Proof.Machine
end

