-- ==== Sys2Proof/Machine/Operands.lean ====
section
/-! DEFINITION. The operand forms of spec/30_encoding.md R82 and R83 as accesses: `reg8`, the immediate addresses and the
fetch of an instruction. -/

namespace Sys2Proof.Machine

/-- `reg8(i)` by index (R82). -/
def operandOfIndex (i : BitVec 3) : Operand8 :=
  ([.reg .b, .reg .c, .reg .d, .reg .e, .reg .h, .reg .l, .memHL, .reg .a] : List Operand8).getD i.toNat .memHL

/-- `rot(arg)` by index (R82). -/
def rotOfIndex (i : BitVec 3) : RotOp :=
  ([.rlc, .rrc, .rl, .rr, .sla, .sra, .swap, .srl] : List RotOp).getD i.toNat .rlc

/-- Read `reg8(i)`: a register, or the byte at HL through `MemRead` (R82). -/
def readOperand (s : State) : Operand8 → Except Fault Byte
  | .reg r => .ok (s.getReg r)
  | .memHL => memRead s s.hl

/-- Write `reg8(i)`: a register, or the byte at HL through `MemWrite` (R82). -/
def writeOperand (s : State) (o : Operand8) (v : Byte) : Except Fault State :=
  match o with
  | .reg r => .ok (s.setReg r v)
  | .memHL => memWrite s s.hl v

/-- The address `0xFF00 + n8` of the short forms (R83). -/
def highPage (n : Byte) : Word := 0xFF00#16 + zext16 n

/-- The fetch of one instruction (R83, R85): the opcode byte, then its operand bytes in address order, each through
`MemRead`; PC moves past each byte read. The instruction is the one the dispatch tables give. -/
def fetchInstr (s : State) : Except Fault (Instr × State) :=
  match memRead s s.pc with
  | .error f => .error f
  | .ok op =>
    match baseEntry op with
    | .plain i => .ok (i, { s with pc := s.pc + 1#16 })
    | .withByte g =>
      match memRead s (s.pc + 1#16) with
      | .error f => .error f
      | .ok n => .ok (g n, { s with pc := s.pc + 2#16 })
    | .withWord g =>
      match memRead16 s (s.pc + 1#16) with
      | .error f => .error f
      | .ok n => .ok (g n, { s with pc := s.pc + 3#16 })

/-- Store bytes at an address and those after it as the fetch reads them, without a bus access: an echo address stores
the byte it mirrors, and an address with no stored byte keeps none. Not an effect of the machine: it places a program. -/
def storeFetchBytes (s : State) (a : Word) : List Byte → State
  | [] => s
  | v :: rest =>
    let s1 : State :=
      if hasStorage (storageAddr a) then { s with mem := Memory.put s.mem (storageAddr a) v } else s
    storeFetchBytes s1 (a + 1#16) rest

end Sys2Proof.Machine
end

