-- ==== Sys2Proof/Machine/Alu16.lean ====
section
/-! DEFINITION. 16-bit arithmetic (spec/43_alu16.md, R192 to R195). -/

namespace Sys2Proof.Machine

/-- `ADD HL,w`, 2 M; Z is kept (R192). -/
def addHl (w : Word) (s : State) : Answer :=
  let r := add16 s.hl w
  finish 2 ((s.setPair .hl r.value).setFlags s.flagZ r.n r.h r.c)

/-- `ADD SP,e8`, 4 M (R195). -/
def addSp (e : Byte) (s : State) : Answer :=
  let r := spadd s.sp e
  finish 4 (({ s with sp := r.value } : State).setFlags false false r.h r.c)

/-- `INC BC` (R193), 03. -/
def execInc_BC (s : State) : Answer := finish 2 (s.setPair .bc (s.getPair .bc + 1#16))

/-- `ADD HL,BC` (R192), 09. -/
def execAdd_HL_BC (s : State) : Answer := addHl (s.getPair .bc) s

/-- `DEC BC` (R194), 0B. -/
def execDec_BC (s : State) : Answer := finish 2 (s.setPair .bc (s.getPair .bc - 1#16))

/-- `INC DE` (R193), 13. -/
def execInc_DE (s : State) : Answer := finish 2 (s.setPair .de (s.getPair .de + 1#16))

/-- `ADD HL,DE` (R192), 19. -/
def execAdd_HL_DE (s : State) : Answer := addHl (s.getPair .de) s

/-- `DEC DE` (R194), 1B. -/
def execDec_DE (s : State) : Answer := finish 2 (s.setPair .de (s.getPair .de - 1#16))

/-- `INC HL` (R193), 23. -/
def execInc_HL (s : State) : Answer := finish 2 (s.setPair .hl (s.getPair .hl + 1#16))

/-- `ADD HL,HL` (R192), 29. -/
def execAdd_HL_HL (s : State) : Answer := addHl (s.getPair .hl) s

/-- `DEC HL` (R194), 2B. -/
def execDec_HL (s : State) : Answer := finish 2 (s.setPair .hl (s.getPair .hl - 1#16))

/-- `INC SP` (R193), 33. -/
def execInc_SP (s : State) : Answer := finish 2 (s.setPair .sp (s.getPair .sp + 1#16))

/-- `ADD HL,SP` (R192), 39. -/
def execAdd_HL_SP (s : State) : Answer := addHl (s.getPair .sp) s

/-- `DEC SP` (R194), 3B. -/
def execDec_SP (s : State) : Answer := finish 2 (s.setPair .sp (s.getPair .sp - 1#16))

/-- `ADD SP,e8` (R195), E8. -/
def execAdd_SP_e8 (e : Byte) (s : State) : Answer := addSp e s

end Sys2Proof.Machine
end

