-- ==== Sys2Proof/Machine/Alu8.lean ====
section
/-! DEFINITION. 8-bit arithmetic and logic (spec/42_alu8.md, R149 to R181). -/

namespace Sys2Proof.Machine

/-- The primitive of `alu(y)` on A and the operand, with the carry flag in (R150 to R173). -/
def aluResult (op : AluOp) (a v : Byte) (carry : Bool) : Alu8 :=
  match op with
  | .add => add8 a v
  | .adc => adc8 a v carry
  | .sub => sub8 a v
  | .sbc => sbc8 a v carry
  | .and => and8 a v
  | .xor => xor8 a v
  | .or => or8 a v
  | .cp => sub8 a v

/-- `alu(y) A,v`: all four flags are stored; A is written unless the operation is CP (R150 to R173). -/
def aluApply (op : AluOp) (v : Byte) (s : State) : State :=
  let r := aluResult op s.a v s.flagC
  let s1 := if op = .cp then s else { s with a := r.value }
  s1.setFlags r.z r.n r.h r.c

/-- The register and immediate forms. -/
def aluByte (op : AluOp) (v : Byte) (m : Nat) (s : State) : Answer := finish m (aluApply op v s)

/-- The `(HL)` forms, 2 M. -/
def aluMem (op : AluOp) (s : State) : Answer := andThen (memRead s s.hl) fun v => finish 2 (aluApply op v s)

/-- `INC r`, 1 M; C is kept (R174). -/
def incReg (r : Reg8) (s : State) : Answer :=
  let x := inc8 (s.getReg r)
  finish 1 ((s.setReg r x.value).setFlags x.z x.n x.h s.flagC)

/-- `DEC r`, 1 M; C is kept (R176). -/
def decReg (r : Reg8) (s : State) : Answer :=
  let x := dec8 (s.getReg r)
  finish 1 ((s.setReg r x.value).setFlags x.z x.n x.h s.flagC)

/-- `INC (HL)`, 3 M (R175). -/
def incMem (s : State) : Answer :=
  andThen (memRead s s.hl) fun v =>
    let x := inc8 v
    andThen (memWrite s s.hl x.value) fun s1 => finish 3 (s1.setFlags x.z x.n x.h s1.flagC)

/-- `DEC (HL)`, 3 M (R177). -/
def decMem (s : State) : Answer :=
  andThen (memRead s s.hl) fun v =>
    let x := dec8 v
    andThen (memWrite s s.hl x.value) fun s1 => finish 3 (s1.setFlags x.z x.n x.h s1.flagC)

/-- `DAA`, 1 M: Z from the result, N kept, H 0 (R178). -/
def decimalAdjust (s : State) : Answer :=
  let r := daa8 s.a s.flagN s.flagH s.flagC
  finish 1 (({ s with a := r.value } : State).setFlags (decide (r.value = 0#8)) s.flagN false r.c)

/-- `CPL`, 1 M (R179). -/
def complementA (s : State) : Answer :=
  finish 1 (({ s with a := s.a ^^^ 0xFF#8 } : State).setFlags s.flagZ true true s.flagC)

/-- `SCF`, 1 M (R180). -/
def setCarry (s : State) : Answer := finish 1 (s.setFlags s.flagZ false false true)

/-- `CCF`, 1 M (R181). -/
def complementCarry (s : State) : Answer := finish 1 (s.setFlags s.flagZ false false (!s.flagC))

/-- `INC B` (R174), 04. -/
def execInc_B (s : State) : Answer := incReg .b s

/-- `DEC B` (R176), 05. -/
def execDec_B (s : State) : Answer := decReg .b s

/-- `INC C` (R174), 0C. -/
def execInc_C (s : State) : Answer := incReg .c s

/-- `DEC C` (R176), 0D. -/
def execDec_C (s : State) : Answer := decReg .c s

/-- `INC D` (R174), 14. -/
def execInc_D (s : State) : Answer := incReg .d s

/-- `DEC D` (R176), 15. -/
def execDec_D (s : State) : Answer := decReg .d s

/-- `INC E` (R174), 1C. -/
def execInc_E (s : State) : Answer := incReg .e s

/-- `DEC E` (R176), 1D. -/
def execDec_E (s : State) : Answer := decReg .e s

/-- `INC H` (R174), 24. -/
def execInc_H (s : State) : Answer := incReg .h s

/-- `DEC H` (R176), 25. -/
def execDec_H (s : State) : Answer := decReg .h s

/-- `DAA` (R178), 27. -/
def execDaa (s : State) : Answer := decimalAdjust s

/-- `INC L` (R174), 2C. -/
def execInc_L (s : State) : Answer := incReg .l s

/-- `DEC L` (R176), 2D. -/
def execDec_L (s : State) : Answer := decReg .l s

/-- `CPL` (R179), 2F. -/
def execCpl (s : State) : Answer := complementA s

/-- `INC (HL)` (R175), 34. -/
def execInc_mHL (s : State) : Answer := incMem s

/-- `DEC (HL)` (R177), 35. -/
def execDec_mHL (s : State) : Answer := decMem s

/-- `SCF` (R180), 37. -/
def execScf (s : State) : Answer := setCarry s

/-- `INC A` (R174), 3C. -/
def execInc_A (s : State) : Answer := incReg .a s

/-- `DEC A` (R176), 3D. -/
def execDec_A (s : State) : Answer := decReg .a s

/-- `CCF` (R181), 3F. -/
def execCcf (s : State) : Answer := complementCarry s

/-- `ADD A,B` (R150), 80. -/
def execAdd_A_B (s : State) : Answer := aluByte .add (s.getReg .b) 1 s

/-- `ADD A,C` (R150), 81. -/
def execAdd_A_C (s : State) : Answer := aluByte .add (s.getReg .c) 1 s

/-- `ADD A,D` (R150), 82. -/
def execAdd_A_D (s : State) : Answer := aluByte .add (s.getReg .d) 1 s

/-- `ADD A,E` (R150), 83. -/
def execAdd_A_E (s : State) : Answer := aluByte .add (s.getReg .e) 1 s

/-- `ADD A,H` (R150), 84. -/
def execAdd_A_H (s : State) : Answer := aluByte .add (s.getReg .h) 1 s

/-- `ADD A,L` (R150), 85. -/
def execAdd_A_L (s : State) : Answer := aluByte .add (s.getReg .l) 1 s

/-- `ADD A,(HL)` (R151), 86. -/
def execAdd_A_mHL (s : State) : Answer := aluMem .add s

/-- `ADD A,A` (R150), 87. -/
def execAdd_A_A (s : State) : Answer := aluByte .add (s.getReg .a) 1 s

/-- `ADC A,B` (R153), 88. -/
def execAdc_A_B (s : State) : Answer := aluByte .adc (s.getReg .b) 1 s

/-- `ADC A,C` (R153), 89. -/
def execAdc_A_C (s : State) : Answer := aluByte .adc (s.getReg .c) 1 s

/-- `ADC A,D` (R153), 8A. -/
def execAdc_A_D (s : State) : Answer := aluByte .adc (s.getReg .d) 1 s

/-- `ADC A,E` (R153), 8B. -/
def execAdc_A_E (s : State) : Answer := aluByte .adc (s.getReg .e) 1 s

/-- `ADC A,H` (R153), 8C. -/
def execAdc_A_H (s : State) : Answer := aluByte .adc (s.getReg .h) 1 s

/-- `ADC A,L` (R153), 8D. -/
def execAdc_A_L (s : State) : Answer := aluByte .adc (s.getReg .l) 1 s

/-- `ADC A,(HL)` (R154), 8E. -/
def execAdc_A_mHL (s : State) : Answer := aluMem .adc s

/-- `ADC A,A` (R153), 8F. -/
def execAdc_A_A (s : State) : Answer := aluByte .adc (s.getReg .a) 1 s

/-- `SUB B` (R156), 90. -/
def execSub_B (s : State) : Answer := aluByte .sub (s.getReg .b) 1 s

/-- `SUB C` (R156), 91. -/
def execSub_C (s : State) : Answer := aluByte .sub (s.getReg .c) 1 s

/-- `SUB D` (R156), 92. -/
def execSub_D (s : State) : Answer := aluByte .sub (s.getReg .d) 1 s

/-- `SUB E` (R156), 93. -/
def execSub_E (s : State) : Answer := aluByte .sub (s.getReg .e) 1 s

/-- `SUB H` (R156), 94. -/
def execSub_H (s : State) : Answer := aluByte .sub (s.getReg .h) 1 s

/-- `SUB L` (R156), 95. -/
def execSub_L (s : State) : Answer := aluByte .sub (s.getReg .l) 1 s

/-- `SUB (HL)` (R157), 96. -/
def execSub_mHL (s : State) : Answer := aluMem .sub s

/-- `SUB A` (R156), 97. -/
def execSub_A (s : State) : Answer := aluByte .sub (s.getReg .a) 1 s

/-- `SBC A,B` (R159), 98. -/
def execSbc_A_B (s : State) : Answer := aluByte .sbc (s.getReg .b) 1 s

/-- `SBC A,C` (R159), 99. -/
def execSbc_A_C (s : State) : Answer := aluByte .sbc (s.getReg .c) 1 s

/-- `SBC A,D` (R159), 9A. -/
def execSbc_A_D (s : State) : Answer := aluByte .sbc (s.getReg .d) 1 s

/-- `SBC A,E` (R159), 9B. -/
def execSbc_A_E (s : State) : Answer := aluByte .sbc (s.getReg .e) 1 s

/-- `SBC A,H` (R159), 9C. -/
def execSbc_A_H (s : State) : Answer := aluByte .sbc (s.getReg .h) 1 s

/-- `SBC A,L` (R159), 9D. -/
def execSbc_A_L (s : State) : Answer := aluByte .sbc (s.getReg .l) 1 s

/-- `SBC A,(HL)` (R160), 9E. -/
def execSbc_A_mHL (s : State) : Answer := aluMem .sbc s

/-- `SBC A,A` (R159), 9F. -/
def execSbc_A_A (s : State) : Answer := aluByte .sbc (s.getReg .a) 1 s

/-- `AND B` (R162), A0. -/
def execAnd_B (s : State) : Answer := aluByte .and (s.getReg .b) 1 s

/-- `AND C` (R162), A1. -/
def execAnd_C (s : State) : Answer := aluByte .and (s.getReg .c) 1 s

/-- `AND D` (R162), A2. -/
def execAnd_D (s : State) : Answer := aluByte .and (s.getReg .d) 1 s

/-- `AND E` (R162), A3. -/
def execAnd_E (s : State) : Answer := aluByte .and (s.getReg .e) 1 s

/-- `AND H` (R162), A4. -/
def execAnd_H (s : State) : Answer := aluByte .and (s.getReg .h) 1 s

/-- `AND L` (R162), A5. -/
def execAnd_L (s : State) : Answer := aluByte .and (s.getReg .l) 1 s

/-- `AND (HL)` (R163), A6. -/
def execAnd_mHL (s : State) : Answer := aluMem .and s

/-- `AND A` (R162), A7. -/
def execAnd_A (s : State) : Answer := aluByte .and (s.getReg .a) 1 s

/-- `XOR B` (R165), A8. -/
def execXor_B (s : State) : Answer := aluByte .xor (s.getReg .b) 1 s

/-- `XOR C` (R165), A9. -/
def execXor_C (s : State) : Answer := aluByte .xor (s.getReg .c) 1 s

/-- `XOR D` (R165), AA. -/
def execXor_D (s : State) : Answer := aluByte .xor (s.getReg .d) 1 s

/-- `XOR E` (R165), AB. -/
def execXor_E (s : State) : Answer := aluByte .xor (s.getReg .e) 1 s

/-- `XOR H` (R165), AC. -/
def execXor_H (s : State) : Answer := aluByte .xor (s.getReg .h) 1 s

/-- `XOR L` (R165), AD. -/
def execXor_L (s : State) : Answer := aluByte .xor (s.getReg .l) 1 s

/-- `XOR (HL)` (R166), AE. -/
def execXor_mHL (s : State) : Answer := aluMem .xor s

/-- `XOR A` (R165), AF. -/
def execXor_A (s : State) : Answer := aluByte .xor (s.getReg .a) 1 s

/-- `OR B` (R168), B0. -/
def execOr_B (s : State) : Answer := aluByte .or (s.getReg .b) 1 s

/-- `OR C` (R168), B1. -/
def execOr_C (s : State) : Answer := aluByte .or (s.getReg .c) 1 s

/-- `OR D` (R168), B2. -/
def execOr_D (s : State) : Answer := aluByte .or (s.getReg .d) 1 s

/-- `OR E` (R168), B3. -/
def execOr_E (s : State) : Answer := aluByte .or (s.getReg .e) 1 s

/-- `OR H` (R168), B4. -/
def execOr_H (s : State) : Answer := aluByte .or (s.getReg .h) 1 s

/-- `OR L` (R168), B5. -/
def execOr_L (s : State) : Answer := aluByte .or (s.getReg .l) 1 s

/-- `OR (HL)` (R169), B6. -/
def execOr_mHL (s : State) : Answer := aluMem .or s

/-- `OR A` (R168), B7. -/
def execOr_A (s : State) : Answer := aluByte .or (s.getReg .a) 1 s

/-- `CP B` (R171), B8. -/
def execCp_B (s : State) : Answer := aluByte .cp (s.getReg .b) 1 s

/-- `CP C` (R171), B9. -/
def execCp_C (s : State) : Answer := aluByte .cp (s.getReg .c) 1 s

/-- `CP D` (R171), BA. -/
def execCp_D (s : State) : Answer := aluByte .cp (s.getReg .d) 1 s

/-- `CP E` (R171), BB. -/
def execCp_E (s : State) : Answer := aluByte .cp (s.getReg .e) 1 s

/-- `CP H` (R171), BC. -/
def execCp_H (s : State) : Answer := aluByte .cp (s.getReg .h) 1 s

/-- `CP L` (R171), BD. -/
def execCp_L (s : State) : Answer := aluByte .cp (s.getReg .l) 1 s

/-- `CP (HL)` (R172), BE. -/
def execCp_mHL (s : State) : Answer := aluMem .cp s

/-- `CP A` (R171), BF. -/
def execCp_A (s : State) : Answer := aluByte .cp (s.getReg .a) 1 s

/-- `ADD A,n8` (R152), C6. -/
def execAdd_A_n8 (n : Byte) (s : State) : Answer := aluByte .add n 2 s

/-- `ADC A,n8` (R155), CE. -/
def execAdc_A_n8 (n : Byte) (s : State) : Answer := aluByte .adc n 2 s

/-- `SUB n8` (R158), D6. -/
def execSub_n8 (n : Byte) (s : State) : Answer := aluByte .sub n 2 s

/-- `SBC A,n8` (R161), DE. -/
def execSbc_A_n8 (n : Byte) (s : State) : Answer := aluByte .sbc n 2 s

/-- `AND n8` (R164), E6. -/
def execAnd_n8 (n : Byte) (s : State) : Answer := aluByte .and n 2 s

/-- `XOR n8` (R167), EE. -/
def execXor_n8 (n : Byte) (s : State) : Answer := aluByte .xor n 2 s

/-- `OR n8` (R170), F6. -/
def execOr_n8 (n : Byte) (s : State) : Answer := aluByte .or n 2 s

/-- `CP n8` (R173), FE. -/
def execCp_n8 (n : Byte) (s : State) : Answer := aluByte .cp n 2 s

end Sys2Proof.Machine
end

