-- ==== Sys2Proof/Machine/Bit.lean ====
section
/-! DEFINITION. Bit test, reset and set (spec/45_bit.md, R240 to R245). -/

namespace Sys2Proof.Machine

/-- `BIT b`: Z is the complement of the bit, N 0, H 1, C kept; nothing else is written (R240, R241). -/
def testBit (b : BitVec 3) (o : Operand8) (m : Nat) (s : State) : Answer :=
  andThen (readOperand s o) fun v => finish m (s.setFlags (!v.getLsbD b.toNat) false true s.flagC)

/-- `RES b`: the bit cleared and the byte written back; no flag (R242, R243). -/
def resetBit (b : BitVec 3) (o : Operand8) (m : Nat) (s : State) : Answer :=
  andThen (readOperand s o) fun v =>
    andThen (writeOperand s o (v &&& ~~~(bitMask b))) fun s1 => finish m s1

/-- `SET b`: the bit set and the byte written back; no flag (R244, R245). -/
def setBit (b : BitVec 3) (o : Operand8) (m : Nat) (s : State) : Answer :=
  andThen (readOperand s o) fun v =>
    andThen (writeOperand s o (v ||| bitMask b)) fun s1 => finish m s1

/-- `BIT 0,B` (R240), CB 40. -/
def execBit_0_B (s : State) : Answer := testBit 0#3 (.reg .b) 2 s

/-- `BIT 0,C` (R240), CB 41. -/
def execBit_0_C (s : State) : Answer := testBit 0#3 (.reg .c) 2 s

/-- `BIT 0,D` (R240), CB 42. -/
def execBit_0_D (s : State) : Answer := testBit 0#3 (.reg .d) 2 s

/-- `BIT 0,E` (R240), CB 43. -/
def execBit_0_E (s : State) : Answer := testBit 0#3 (.reg .e) 2 s

/-- `BIT 0,H` (R240), CB 44. -/
def execBit_0_H (s : State) : Answer := testBit 0#3 (.reg .h) 2 s

/-- `BIT 0,L` (R240), CB 45. -/
def execBit_0_L (s : State) : Answer := testBit 0#3 (.reg .l) 2 s

/-- `BIT 0,(HL)` (R241), CB 46. -/
def execBit_0_mHL (s : State) : Answer := testBit 0#3 .memHL 3 s

/-- `BIT 0,A` (R240), CB 47. -/
def execBit_0_A (s : State) : Answer := testBit 0#3 (.reg .a) 2 s

/-- `BIT 1,B` (R240), CB 48. -/
def execBit_1_B (s : State) : Answer := testBit 1#3 (.reg .b) 2 s

/-- `BIT 1,C` (R240), CB 49. -/
def execBit_1_C (s : State) : Answer := testBit 1#3 (.reg .c) 2 s

/-- `BIT 1,D` (R240), CB 4A. -/
def execBit_1_D (s : State) : Answer := testBit 1#3 (.reg .d) 2 s

/-- `BIT 1,E` (R240), CB 4B. -/
def execBit_1_E (s : State) : Answer := testBit 1#3 (.reg .e) 2 s

/-- `BIT 1,H` (R240), CB 4C. -/
def execBit_1_H (s : State) : Answer := testBit 1#3 (.reg .h) 2 s

/-- `BIT 1,L` (R240), CB 4D. -/
def execBit_1_L (s : State) : Answer := testBit 1#3 (.reg .l) 2 s

/-- `BIT 1,(HL)` (R241), CB 4E. -/
def execBit_1_mHL (s : State) : Answer := testBit 1#3 .memHL 3 s

/-- `BIT 1,A` (R240), CB 4F. -/
def execBit_1_A (s : State) : Answer := testBit 1#3 (.reg .a) 2 s

/-- `BIT 2,B` (R240), CB 50. -/
def execBit_2_B (s : State) : Answer := testBit 2#3 (.reg .b) 2 s

/-- `BIT 2,C` (R240), CB 51. -/
def execBit_2_C (s : State) : Answer := testBit 2#3 (.reg .c) 2 s

/-- `BIT 2,D` (R240), CB 52. -/
def execBit_2_D (s : State) : Answer := testBit 2#3 (.reg .d) 2 s

/-- `BIT 2,E` (R240), CB 53. -/
def execBit_2_E (s : State) : Answer := testBit 2#3 (.reg .e) 2 s

/-- `BIT 2,H` (R240), CB 54. -/
def execBit_2_H (s : State) : Answer := testBit 2#3 (.reg .h) 2 s

/-- `BIT 2,L` (R240), CB 55. -/
def execBit_2_L (s : State) : Answer := testBit 2#3 (.reg .l) 2 s

/-- `BIT 2,(HL)` (R241), CB 56. -/
def execBit_2_mHL (s : State) : Answer := testBit 2#3 .memHL 3 s

/-- `BIT 2,A` (R240), CB 57. -/
def execBit_2_A (s : State) : Answer := testBit 2#3 (.reg .a) 2 s

/-- `BIT 3,B` (R240), CB 58. -/
def execBit_3_B (s : State) : Answer := testBit 3#3 (.reg .b) 2 s

/-- `BIT 3,C` (R240), CB 59. -/
def execBit_3_C (s : State) : Answer := testBit 3#3 (.reg .c) 2 s

/-- `BIT 3,D` (R240), CB 5A. -/
def execBit_3_D (s : State) : Answer := testBit 3#3 (.reg .d) 2 s

/-- `BIT 3,E` (R240), CB 5B. -/
def execBit_3_E (s : State) : Answer := testBit 3#3 (.reg .e) 2 s

/-- `BIT 3,H` (R240), CB 5C. -/
def execBit_3_H (s : State) : Answer := testBit 3#3 (.reg .h) 2 s

/-- `BIT 3,L` (R240), CB 5D. -/
def execBit_3_L (s : State) : Answer := testBit 3#3 (.reg .l) 2 s

/-- `BIT 3,(HL)` (R241), CB 5E. -/
def execBit_3_mHL (s : State) : Answer := testBit 3#3 .memHL 3 s

/-- `BIT 3,A` (R240), CB 5F. -/
def execBit_3_A (s : State) : Answer := testBit 3#3 (.reg .a) 2 s

/-- `BIT 4,B` (R240), CB 60. -/
def execBit_4_B (s : State) : Answer := testBit 4#3 (.reg .b) 2 s

/-- `BIT 4,C` (R240), CB 61. -/
def execBit_4_C (s : State) : Answer := testBit 4#3 (.reg .c) 2 s

/-- `BIT 4,D` (R240), CB 62. -/
def execBit_4_D (s : State) : Answer := testBit 4#3 (.reg .d) 2 s

/-- `BIT 4,E` (R240), CB 63. -/
def execBit_4_E (s : State) : Answer := testBit 4#3 (.reg .e) 2 s

/-- `BIT 4,H` (R240), CB 64. -/
def execBit_4_H (s : State) : Answer := testBit 4#3 (.reg .h) 2 s

/-- `BIT 4,L` (R240), CB 65. -/
def execBit_4_L (s : State) : Answer := testBit 4#3 (.reg .l) 2 s

/-- `BIT 4,(HL)` (R241), CB 66. -/
def execBit_4_mHL (s : State) : Answer := testBit 4#3 .memHL 3 s

/-- `BIT 4,A` (R240), CB 67. -/
def execBit_4_A (s : State) : Answer := testBit 4#3 (.reg .a) 2 s

/-- `BIT 5,B` (R240), CB 68. -/
def execBit_5_B (s : State) : Answer := testBit 5#3 (.reg .b) 2 s

/-- `BIT 5,C` (R240), CB 69. -/
def execBit_5_C (s : State) : Answer := testBit 5#3 (.reg .c) 2 s

/-- `BIT 5,D` (R240), CB 6A. -/
def execBit_5_D (s : State) : Answer := testBit 5#3 (.reg .d) 2 s

/-- `BIT 5,E` (R240), CB 6B. -/
def execBit_5_E (s : State) : Answer := testBit 5#3 (.reg .e) 2 s

/-- `BIT 5,H` (R240), CB 6C. -/
def execBit_5_H (s : State) : Answer := testBit 5#3 (.reg .h) 2 s

/-- `BIT 5,L` (R240), CB 6D. -/
def execBit_5_L (s : State) : Answer := testBit 5#3 (.reg .l) 2 s

/-- `BIT 5,(HL)` (R241), CB 6E. -/
def execBit_5_mHL (s : State) : Answer := testBit 5#3 .memHL 3 s

/-- `BIT 5,A` (R240), CB 6F. -/
def execBit_5_A (s : State) : Answer := testBit 5#3 (.reg .a) 2 s

/-- `BIT 6,B` (R240), CB 70. -/
def execBit_6_B (s : State) : Answer := testBit 6#3 (.reg .b) 2 s

/-- `BIT 6,C` (R240), CB 71. -/
def execBit_6_C (s : State) : Answer := testBit 6#3 (.reg .c) 2 s

/-- `BIT 6,D` (R240), CB 72. -/
def execBit_6_D (s : State) : Answer := testBit 6#3 (.reg .d) 2 s

/-- `BIT 6,E` (R240), CB 73. -/
def execBit_6_E (s : State) : Answer := testBit 6#3 (.reg .e) 2 s

/-- `BIT 6,H` (R240), CB 74. -/
def execBit_6_H (s : State) : Answer := testBit 6#3 (.reg .h) 2 s

/-- `BIT 6,L` (R240), CB 75. -/
def execBit_6_L (s : State) : Answer := testBit 6#3 (.reg .l) 2 s

/-- `BIT 6,(HL)` (R241), CB 76. -/
def execBit_6_mHL (s : State) : Answer := testBit 6#3 .memHL 3 s

/-- `BIT 6,A` (R240), CB 77. -/
def execBit_6_A (s : State) : Answer := testBit 6#3 (.reg .a) 2 s

/-- `BIT 7,B` (R240), CB 78. -/
def execBit_7_B (s : State) : Answer := testBit 7#3 (.reg .b) 2 s

/-- `BIT 7,C` (R240), CB 79. -/
def execBit_7_C (s : State) : Answer := testBit 7#3 (.reg .c) 2 s

/-- `BIT 7,D` (R240), CB 7A. -/
def execBit_7_D (s : State) : Answer := testBit 7#3 (.reg .d) 2 s

/-- `BIT 7,E` (R240), CB 7B. -/
def execBit_7_E (s : State) : Answer := testBit 7#3 (.reg .e) 2 s

/-- `BIT 7,H` (R240), CB 7C. -/
def execBit_7_H (s : State) : Answer := testBit 7#3 (.reg .h) 2 s

/-- `BIT 7,L` (R240), CB 7D. -/
def execBit_7_L (s : State) : Answer := testBit 7#3 (.reg .l) 2 s

/-- `BIT 7,(HL)` (R241), CB 7E. -/
def execBit_7_mHL (s : State) : Answer := testBit 7#3 .memHL 3 s

/-- `BIT 7,A` (R240), CB 7F. -/
def execBit_7_A (s : State) : Answer := testBit 7#3 (.reg .a) 2 s

/-- `RES 0,B` (R242), CB 80. -/
def execRes_0_B (s : State) : Answer := resetBit 0#3 (.reg .b) 2 s

/-- `RES 0,C` (R242), CB 81. -/
def execRes_0_C (s : State) : Answer := resetBit 0#3 (.reg .c) 2 s

/-- `RES 0,D` (R242), CB 82. -/
def execRes_0_D (s : State) : Answer := resetBit 0#3 (.reg .d) 2 s

/-- `RES 0,E` (R242), CB 83. -/
def execRes_0_E (s : State) : Answer := resetBit 0#3 (.reg .e) 2 s

/-- `RES 0,H` (R242), CB 84. -/
def execRes_0_H (s : State) : Answer := resetBit 0#3 (.reg .h) 2 s

/-- `RES 0,L` (R242), CB 85. -/
def execRes_0_L (s : State) : Answer := resetBit 0#3 (.reg .l) 2 s

/-- `RES 0,(HL)` (R243), CB 86. -/
def execRes_0_mHL (s : State) : Answer := resetBit 0#3 .memHL 4 s

/-- `RES 0,A` (R242), CB 87. -/
def execRes_0_A (s : State) : Answer := resetBit 0#3 (.reg .a) 2 s

/-- `RES 1,B` (R242), CB 88. -/
def execRes_1_B (s : State) : Answer := resetBit 1#3 (.reg .b) 2 s

/-- `RES 1,C` (R242), CB 89. -/
def execRes_1_C (s : State) : Answer := resetBit 1#3 (.reg .c) 2 s

/-- `RES 1,D` (R242), CB 8A. -/
def execRes_1_D (s : State) : Answer := resetBit 1#3 (.reg .d) 2 s

/-- `RES 1,E` (R242), CB 8B. -/
def execRes_1_E (s : State) : Answer := resetBit 1#3 (.reg .e) 2 s

/-- `RES 1,H` (R242), CB 8C. -/
def execRes_1_H (s : State) : Answer := resetBit 1#3 (.reg .h) 2 s

/-- `RES 1,L` (R242), CB 8D. -/
def execRes_1_L (s : State) : Answer := resetBit 1#3 (.reg .l) 2 s

/-- `RES 1,(HL)` (R243), CB 8E. -/
def execRes_1_mHL (s : State) : Answer := resetBit 1#3 .memHL 4 s

/-- `RES 1,A` (R242), CB 8F. -/
def execRes_1_A (s : State) : Answer := resetBit 1#3 (.reg .a) 2 s

/-- `RES 2,B` (R242), CB 90. -/
def execRes_2_B (s : State) : Answer := resetBit 2#3 (.reg .b) 2 s

/-- `RES 2,C` (R242), CB 91. -/
def execRes_2_C (s : State) : Answer := resetBit 2#3 (.reg .c) 2 s

/-- `RES 2,D` (R242), CB 92. -/
def execRes_2_D (s : State) : Answer := resetBit 2#3 (.reg .d) 2 s

/-- `RES 2,E` (R242), CB 93. -/
def execRes_2_E (s : State) : Answer := resetBit 2#3 (.reg .e) 2 s

/-- `RES 2,H` (R242), CB 94. -/
def execRes_2_H (s : State) : Answer := resetBit 2#3 (.reg .h) 2 s

/-- `RES 2,L` (R242), CB 95. -/
def execRes_2_L (s : State) : Answer := resetBit 2#3 (.reg .l) 2 s

/-- `RES 2,(HL)` (R243), CB 96. -/
def execRes_2_mHL (s : State) : Answer := resetBit 2#3 .memHL 4 s

/-- `RES 2,A` (R242), CB 97. -/
def execRes_2_A (s : State) : Answer := resetBit 2#3 (.reg .a) 2 s

/-- `RES 3,B` (R242), CB 98. -/
def execRes_3_B (s : State) : Answer := resetBit 3#3 (.reg .b) 2 s

/-- `RES 3,C` (R242), CB 99. -/
def execRes_3_C (s : State) : Answer := resetBit 3#3 (.reg .c) 2 s

/-- `RES 3,D` (R242), CB 9A. -/
def execRes_3_D (s : State) : Answer := resetBit 3#3 (.reg .d) 2 s

/-- `RES 3,E` (R242), CB 9B. -/
def execRes_3_E (s : State) : Answer := resetBit 3#3 (.reg .e) 2 s

/-- `RES 3,H` (R242), CB 9C. -/
def execRes_3_H (s : State) : Answer := resetBit 3#3 (.reg .h) 2 s

/-- `RES 3,L` (R242), CB 9D. -/
def execRes_3_L (s : State) : Answer := resetBit 3#3 (.reg .l) 2 s

/-- `RES 3,(HL)` (R243), CB 9E. -/
def execRes_3_mHL (s : State) : Answer := resetBit 3#3 .memHL 4 s

/-- `RES 3,A` (R242), CB 9F. -/
def execRes_3_A (s : State) : Answer := resetBit 3#3 (.reg .a) 2 s

/-- `RES 4,B` (R242), CB A0. -/
def execRes_4_B (s : State) : Answer := resetBit 4#3 (.reg .b) 2 s

/-- `RES 4,C` (R242), CB A1. -/
def execRes_4_C (s : State) : Answer := resetBit 4#3 (.reg .c) 2 s

/-- `RES 4,D` (R242), CB A2. -/
def execRes_4_D (s : State) : Answer := resetBit 4#3 (.reg .d) 2 s

/-- `RES 4,E` (R242), CB A3. -/
def execRes_4_E (s : State) : Answer := resetBit 4#3 (.reg .e) 2 s

/-- `RES 4,H` (R242), CB A4. -/
def execRes_4_H (s : State) : Answer := resetBit 4#3 (.reg .h) 2 s

/-- `RES 4,L` (R242), CB A5. -/
def execRes_4_L (s : State) : Answer := resetBit 4#3 (.reg .l) 2 s

/-- `RES 4,(HL)` (R243), CB A6. -/
def execRes_4_mHL (s : State) : Answer := resetBit 4#3 .memHL 4 s

/-- `RES 4,A` (R242), CB A7. -/
def execRes_4_A (s : State) : Answer := resetBit 4#3 (.reg .a) 2 s

/-- `RES 5,B` (R242), CB A8. -/
def execRes_5_B (s : State) : Answer := resetBit 5#3 (.reg .b) 2 s

/-- `RES 5,C` (R242), CB A9. -/
def execRes_5_C (s : State) : Answer := resetBit 5#3 (.reg .c) 2 s

/-- `RES 5,D` (R242), CB AA. -/
def execRes_5_D (s : State) : Answer := resetBit 5#3 (.reg .d) 2 s

/-- `RES 5,E` (R242), CB AB. -/
def execRes_5_E (s : State) : Answer := resetBit 5#3 (.reg .e) 2 s

/-- `RES 5,H` (R242), CB AC. -/
def execRes_5_H (s : State) : Answer := resetBit 5#3 (.reg .h) 2 s

/-- `RES 5,L` (R242), CB AD. -/
def execRes_5_L (s : State) : Answer := resetBit 5#3 (.reg .l) 2 s

/-- `RES 5,(HL)` (R243), CB AE. -/
def execRes_5_mHL (s : State) : Answer := resetBit 5#3 .memHL 4 s

/-- `RES 5,A` (R242), CB AF. -/
def execRes_5_A (s : State) : Answer := resetBit 5#3 (.reg .a) 2 s

/-- `RES 6,B` (R242), CB B0. -/
def execRes_6_B (s : State) : Answer := resetBit 6#3 (.reg .b) 2 s

/-- `RES 6,C` (R242), CB B1. -/
def execRes_6_C (s : State) : Answer := resetBit 6#3 (.reg .c) 2 s

/-- `RES 6,D` (R242), CB B2. -/
def execRes_6_D (s : State) : Answer := resetBit 6#3 (.reg .d) 2 s

/-- `RES 6,E` (R242), CB B3. -/
def execRes_6_E (s : State) : Answer := resetBit 6#3 (.reg .e) 2 s

/-- `RES 6,H` (R242), CB B4. -/
def execRes_6_H (s : State) : Answer := resetBit 6#3 (.reg .h) 2 s

/-- `RES 6,L` (R242), CB B5. -/
def execRes_6_L (s : State) : Answer := resetBit 6#3 (.reg .l) 2 s

/-- `RES 6,(HL)` (R243), CB B6. -/
def execRes_6_mHL (s : State) : Answer := resetBit 6#3 .memHL 4 s

/-- `RES 6,A` (R242), CB B7. -/
def execRes_6_A (s : State) : Answer := resetBit 6#3 (.reg .a) 2 s

/-- `RES 7,B` (R242), CB B8. -/
def execRes_7_B (s : State) : Answer := resetBit 7#3 (.reg .b) 2 s

/-- `RES 7,C` (R242), CB B9. -/
def execRes_7_C (s : State) : Answer := resetBit 7#3 (.reg .c) 2 s

/-- `RES 7,D` (R242), CB BA. -/
def execRes_7_D (s : State) : Answer := resetBit 7#3 (.reg .d) 2 s

/-- `RES 7,E` (R242), CB BB. -/
def execRes_7_E (s : State) : Answer := resetBit 7#3 (.reg .e) 2 s

/-- `RES 7,H` (R242), CB BC. -/
def execRes_7_H (s : State) : Answer := resetBit 7#3 (.reg .h) 2 s

/-- `RES 7,L` (R242), CB BD. -/
def execRes_7_L (s : State) : Answer := resetBit 7#3 (.reg .l) 2 s

/-- `RES 7,(HL)` (R243), CB BE. -/
def execRes_7_mHL (s : State) : Answer := resetBit 7#3 .memHL 4 s

/-- `RES 7,A` (R242), CB BF. -/
def execRes_7_A (s : State) : Answer := resetBit 7#3 (.reg .a) 2 s

/-- `SET 0,B` (R244), CB C0. -/
def execSet_0_B (s : State) : Answer := setBit 0#3 (.reg .b) 2 s

/-- `SET 0,C` (R244), CB C1. -/
def execSet_0_C (s : State) : Answer := setBit 0#3 (.reg .c) 2 s

/-- `SET 0,D` (R244), CB C2. -/
def execSet_0_D (s : State) : Answer := setBit 0#3 (.reg .d) 2 s

/-- `SET 0,E` (R244), CB C3. -/
def execSet_0_E (s : State) : Answer := setBit 0#3 (.reg .e) 2 s

/-- `SET 0,H` (R244), CB C4. -/
def execSet_0_H (s : State) : Answer := setBit 0#3 (.reg .h) 2 s

/-- `SET 0,L` (R244), CB C5. -/
def execSet_0_L (s : State) : Answer := setBit 0#3 (.reg .l) 2 s

/-- `SET 0,(HL)` (R245), CB C6. -/
def execSet_0_mHL (s : State) : Answer := setBit 0#3 .memHL 4 s

/-- `SET 0,A` (R244), CB C7. -/
def execSet_0_A (s : State) : Answer := setBit 0#3 (.reg .a) 2 s

/-- `SET 1,B` (R244), CB C8. -/
def execSet_1_B (s : State) : Answer := setBit 1#3 (.reg .b) 2 s

/-- `SET 1,C` (R244), CB C9. -/
def execSet_1_C (s : State) : Answer := setBit 1#3 (.reg .c) 2 s

/-- `SET 1,D` (R244), CB CA. -/
def execSet_1_D (s : State) : Answer := setBit 1#3 (.reg .d) 2 s

/-- `SET 1,E` (R244), CB CB. -/
def execSet_1_E (s : State) : Answer := setBit 1#3 (.reg .e) 2 s

/-- `SET 1,H` (R244), CB CC. -/
def execSet_1_H (s : State) : Answer := setBit 1#3 (.reg .h) 2 s

/-- `SET 1,L` (R244), CB CD. -/
def execSet_1_L (s : State) : Answer := setBit 1#3 (.reg .l) 2 s

/-- `SET 1,(HL)` (R245), CB CE. -/
def execSet_1_mHL (s : State) : Answer := setBit 1#3 .memHL 4 s

/-- `SET 1,A` (R244), CB CF. -/
def execSet_1_A (s : State) : Answer := setBit 1#3 (.reg .a) 2 s

/-- `SET 2,B` (R244), CB D0. -/
def execSet_2_B (s : State) : Answer := setBit 2#3 (.reg .b) 2 s

/-- `SET 2,C` (R244), CB D1. -/
def execSet_2_C (s : State) : Answer := setBit 2#3 (.reg .c) 2 s

/-- `SET 2,D` (R244), CB D2. -/
def execSet_2_D (s : State) : Answer := setBit 2#3 (.reg .d) 2 s

/-- `SET 2,E` (R244), CB D3. -/
def execSet_2_E (s : State) : Answer := setBit 2#3 (.reg .e) 2 s

/-- `SET 2,H` (R244), CB D4. -/
def execSet_2_H (s : State) : Answer := setBit 2#3 (.reg .h) 2 s

/-- `SET 2,L` (R244), CB D5. -/
def execSet_2_L (s : State) : Answer := setBit 2#3 (.reg .l) 2 s

/-- `SET 2,(HL)` (R245), CB D6. -/
def execSet_2_mHL (s : State) : Answer := setBit 2#3 .memHL 4 s

/-- `SET 2,A` (R244), CB D7. -/
def execSet_2_A (s : State) : Answer := setBit 2#3 (.reg .a) 2 s

/-- `SET 3,B` (R244), CB D8. -/
def execSet_3_B (s : State) : Answer := setBit 3#3 (.reg .b) 2 s

/-- `SET 3,C` (R244), CB D9. -/
def execSet_3_C (s : State) : Answer := setBit 3#3 (.reg .c) 2 s

/-- `SET 3,D` (R244), CB DA. -/
def execSet_3_D (s : State) : Answer := setBit 3#3 (.reg .d) 2 s

/-- `SET 3,E` (R244), CB DB. -/
def execSet_3_E (s : State) : Answer := setBit 3#3 (.reg .e) 2 s

/-- `SET 3,H` (R244), CB DC. -/
def execSet_3_H (s : State) : Answer := setBit 3#3 (.reg .h) 2 s

/-- `SET 3,L` (R244), CB DD. -/
def execSet_3_L (s : State) : Answer := setBit 3#3 (.reg .l) 2 s

/-- `SET 3,(HL)` (R245), CB DE. -/
def execSet_3_mHL (s : State) : Answer := setBit 3#3 .memHL 4 s

/-- `SET 3,A` (R244), CB DF. -/
def execSet_3_A (s : State) : Answer := setBit 3#3 (.reg .a) 2 s

/-- `SET 4,B` (R244), CB E0. -/
def execSet_4_B (s : State) : Answer := setBit 4#3 (.reg .b) 2 s

/-- `SET 4,C` (R244), CB E1. -/
def execSet_4_C (s : State) : Answer := setBit 4#3 (.reg .c) 2 s

/-- `SET 4,D` (R244), CB E2. -/
def execSet_4_D (s : State) : Answer := setBit 4#3 (.reg .d) 2 s

/-- `SET 4,E` (R244), CB E3. -/
def execSet_4_E (s : State) : Answer := setBit 4#3 (.reg .e) 2 s

/-- `SET 4,H` (R244), CB E4. -/
def execSet_4_H (s : State) : Answer := setBit 4#3 (.reg .h) 2 s

/-- `SET 4,L` (R244), CB E5. -/
def execSet_4_L (s : State) : Answer := setBit 4#3 (.reg .l) 2 s

/-- `SET 4,(HL)` (R245), CB E6. -/
def execSet_4_mHL (s : State) : Answer := setBit 4#3 .memHL 4 s

/-- `SET 4,A` (R244), CB E7. -/
def execSet_4_A (s : State) : Answer := setBit 4#3 (.reg .a) 2 s

/-- `SET 5,B` (R244), CB E8. -/
def execSet_5_B (s : State) : Answer := setBit 5#3 (.reg .b) 2 s

/-- `SET 5,C` (R244), CB E9. -/
def execSet_5_C (s : State) : Answer := setBit 5#3 (.reg .c) 2 s

/-- `SET 5,D` (R244), CB EA. -/
def execSet_5_D (s : State) : Answer := setBit 5#3 (.reg .d) 2 s

/-- `SET 5,E` (R244), CB EB. -/
def execSet_5_E (s : State) : Answer := setBit 5#3 (.reg .e) 2 s

/-- `SET 5,H` (R244), CB EC. -/
def execSet_5_H (s : State) : Answer := setBit 5#3 (.reg .h) 2 s

/-- `SET 5,L` (R244), CB ED. -/
def execSet_5_L (s : State) : Answer := setBit 5#3 (.reg .l) 2 s

/-- `SET 5,(HL)` (R245), CB EE. -/
def execSet_5_mHL (s : State) : Answer := setBit 5#3 .memHL 4 s

/-- `SET 5,A` (R244), CB EF. -/
def execSet_5_A (s : State) : Answer := setBit 5#3 (.reg .a) 2 s

/-- `SET 6,B` (R244), CB F0. -/
def execSet_6_B (s : State) : Answer := setBit 6#3 (.reg .b) 2 s

/-- `SET 6,C` (R244), CB F1. -/
def execSet_6_C (s : State) : Answer := setBit 6#3 (.reg .c) 2 s

/-- `SET 6,D` (R244), CB F2. -/
def execSet_6_D (s : State) : Answer := setBit 6#3 (.reg .d) 2 s

/-- `SET 6,E` (R244), CB F3. -/
def execSet_6_E (s : State) : Answer := setBit 6#3 (.reg .e) 2 s

/-- `SET 6,H` (R244), CB F4. -/
def execSet_6_H (s : State) : Answer := setBit 6#3 (.reg .h) 2 s

/-- `SET 6,L` (R244), CB F5. -/
def execSet_6_L (s : State) : Answer := setBit 6#3 (.reg .l) 2 s

/-- `SET 6,(HL)` (R245), CB F6. -/
def execSet_6_mHL (s : State) : Answer := setBit 6#3 .memHL 4 s

/-- `SET 6,A` (R244), CB F7. -/
def execSet_6_A (s : State) : Answer := setBit 6#3 (.reg .a) 2 s

/-- `SET 7,B` (R244), CB F8. -/
def execSet_7_B (s : State) : Answer := setBit 7#3 (.reg .b) 2 s

/-- `SET 7,C` (R244), CB F9. -/
def execSet_7_C (s : State) : Answer := setBit 7#3 (.reg .c) 2 s

/-- `SET 7,D` (R244), CB FA. -/
def execSet_7_D (s : State) : Answer := setBit 7#3 (.reg .d) 2 s

/-- `SET 7,E` (R244), CB FB. -/
def execSet_7_E (s : State) : Answer := setBit 7#3 (.reg .e) 2 s

/-- `SET 7,H` (R244), CB FC. -/
def execSet_7_H (s : State) : Answer := setBit 7#3 (.reg .h) 2 s

/-- `SET 7,L` (R244), CB FD. -/
def execSet_7_L (s : State) : Answer := setBit 7#3 (.reg .l) 2 s

/-- `SET 7,(HL)` (R245), CB FE. -/
def execSet_7_mHL (s : State) : Answer := setBit 7#3 .memHL 4 s

/-- `SET 7,A` (R244), CB FF. -/
def execSet_7_A (s : State) : Answer := setBit 7#3 (.reg .a) 2 s

end Sys2Proof.Machine
end

