-- ==== Sys2Proof/Machine/Control.lean ====
section
/-! DEFINITION. Jumps, calls, returns and restarts (spec/46_control.md, R250 to R261). The state's PC is `PC_next`, the
address after the whole instruction. None writes F. -/

namespace Sys2Proof.Machine

/-- `JP cc,a16`: 4 M taken, 3 M not taken (R252). -/
def jumpIf (cc : Cond) (a : Word) (s : State) : Answer :=
  if s.cond cc then finish 4 { s with pc := a } else finish 3 s

/-- `JR cc,e8`: 3 M taken, 2 M not taken (R255). -/
def jumpRelIf (cc : Cond) (e : Byte) (s : State) : Answer :=
  if s.cond cc then finish 3 { s with pc := s.pc + sext16 e } else finish 2 s

/-- `Push16(PC); PC <- a` (R256, R261). -/
def callTo (a : Word) (m : Nat) (s : State) : Answer :=
  andThen (push16 s s.pc) fun s1 => finish m { s1 with pc := a }

/-- `CALL cc,a16`: 6 M taken, 3 M not taken (R257). -/
def callIf (cc : Cond) (a : Word) (s : State) : Answer :=
  if s.cond cc then callTo a 6 s else finish 3 s

/-- `RET cc`: 5 M taken, 2 M not taken (R259). -/
def returnIf (cc : Cond) (s : State) : Answer :=
  if s.cond cc then returnFrom s false 5 else finish 2 s

/-- `JR e8` (R254), 18. -/
def execJr_e8 (e : Byte) (s : State) : Answer := finish 3 { s with pc := s.pc + sext16 e }

/-- `JR NZ,e8` (R255), 20. -/
def execJr_NZ_e8 (e : Byte) (s : State) : Answer := jumpRelIf .nz e s

/-- `JR Z,e8` (R255), 28. -/
def execJr_Z_e8 (e : Byte) (s : State) : Answer := jumpRelIf .z e s

/-- `JR NC,e8` (R255), 30. -/
def execJr_NC_e8 (e : Byte) (s : State) : Answer := jumpRelIf .nc e s

/-- `JR C,e8` (R255), 38. -/
def execJr_C_e8 (e : Byte) (s : State) : Answer := jumpRelIf .c e s

/-- `RET NZ` (R259), C0. -/
def execRet_NZ (s : State) : Answer := returnIf .nz s

/-- `JP NZ,a16` (R252), C2. -/
def execJp_NZ_a16 (n : Word) (s : State) : Answer := jumpIf .nz n s

/-- `JP a16` (R251), C3. -/
def execJp_a16 (n : Word) (s : State) : Answer := finish 4 { s with pc := n }

/-- `CALL NZ,a16` (R257), C4. -/
def execCall_NZ_a16 (n : Word) (s : State) : Answer := callIf .nz n s

/-- `RST 0x00` (R261), C7. -/
def execRst_00 (s : State) : Answer := callTo 0x0000#16 4 s

/-- `RET Z` (R259), C8. -/
def execRet_Z (s : State) : Answer := returnIf .z s

/-- `RET` (R258), C9. -/
def execRet (s : State) : Answer := returnFrom s false 4

/-- `JP Z,a16` (R252), CA. -/
def execJp_Z_a16 (n : Word) (s : State) : Answer := jumpIf .z n s

/-- `CALL Z,a16` (R257), CC. -/
def execCall_Z_a16 (n : Word) (s : State) : Answer := callIf .z n s

/-- `CALL a16` (R256), CD. -/
def execCall_a16 (n : Word) (s : State) : Answer := callTo n 6 s

/-- `RST 0x08` (R261), CF. -/
def execRst_08 (s : State) : Answer := callTo 0x0008#16 4 s

/-- `RET NC` (R259), D0. -/
def execRet_NC (s : State) : Answer := returnIf .nc s

/-- `JP NC,a16` (R252), D2. -/
def execJp_NC_a16 (n : Word) (s : State) : Answer := jumpIf .nc n s

/-- `CALL NC,a16` (R257), D4. -/
def execCall_NC_a16 (n : Word) (s : State) : Answer := callIf .nc n s

/-- `RST 0x10` (R261), D7. -/
def execRst_10 (s : State) : Answer := callTo 0x0010#16 4 s

/-- `RET C` (R259), D8. -/
def execRet_C (s : State) : Answer := returnIf .c s

/-- `RETI` (R260), D9. -/
def execReti (s : State) : Answer := returnFrom s true 4

/-- `JP C,a16` (R252), DA. -/
def execJp_C_a16 (n : Word) (s : State) : Answer := jumpIf .c n s

/-- `CALL C,a16` (R257), DC. -/
def execCall_C_a16 (n : Word) (s : State) : Answer := callIf .c n s

/-- `RST 0x18` (R261), DF. -/
def execRst_18 (s : State) : Answer := callTo 0x0018#16 4 s

/-- `RST 0x20` (R261), E7. -/
def execRst_20 (s : State) : Answer := callTo 0x0020#16 4 s

/-- `JP HL` (R253), E9. -/
def execJp_HL (s : State) : Answer := finish 1 { s with pc := s.hl }

/-- `RST 0x28` (R261), EF. -/
def execRst_28 (s : State) : Answer := callTo 0x0028#16 4 s

/-- `RST 0x30` (R261), F7. -/
def execRst_30 (s : State) : Answer := callTo 0x0030#16 4 s

/-- `RST 0x38` (R261), FF. -/
def execRst_38 (s : State) : Answer := callTo 0x0038#16 4 s

end Sys2Proof.Machine
end

