-- ==== Sys2Proof/Machine/Load16.lean ====
section
/-! DEFINITION. 16-bit loads, push and pop (spec/41_load16.md, R120 to R126). -/

namespace Sys2Proof.Machine

/-- `MemWrite(a, 2, SP)`, 5 M (R121). -/
def storeSp (a : Word) (s : State) : Answer := andThen (memWrite16 s a s.sp) fun s1 => finish 5 s1

/-- `HL <- SP + e` with Z = N = 0 and the flags of `spadd`, 3 M (R123). -/
def loadHlSp (e : Byte) (s : State) : Answer :=
  let r := spadd s.sp e
  finish 3 ((s.setPair .hl r.value).setFlags false false r.h r.c)

/-- `Push16(rp2(p))`, 4 M (R124). -/
def pushPair (p : StackPair) (s : State) : Answer :=
  andThen (push16 s (s.getStackPair p)) fun s1 => finish 4 s1

/-- `rp2(p) <- Pop16()`, 3 M; a pop of AF stores `w & 0xFFF0` (R125, R126). -/
def popPair (p : StackPair) (s : State) : Answer :=
  andThen (pop16 s) fun r => finish 3 (r.2.setStackPair p r.1)

/-- `LD BC,n16` (R120), 01. -/
def execLd_BC_n16 (n : Word) (s : State) : Answer := finish 3 (s.setPair .bc n)

/-- `LD (a16),SP` (R121), 08. -/
def execLd_ma16_SP (n : Word) (s : State) : Answer := storeSp n s

/-- `LD DE,n16` (R120), 11. -/
def execLd_DE_n16 (n : Word) (s : State) : Answer := finish 3 (s.setPair .de n)

/-- `LD HL,n16` (R120), 21. -/
def execLd_HL_n16 (n : Word) (s : State) : Answer := finish 3 (s.setPair .hl n)

/-- `LD SP,n16` (R120), 31. -/
def execLd_SP_n16 (n : Word) (s : State) : Answer := finish 3 (s.setPair .sp n)

/-- `POP BC` (R125), C1. -/
def execPop_BC (s : State) : Answer := popPair .bc s

/-- `PUSH BC` (R124), C5. -/
def execPush_BC (s : State) : Answer := pushPair .bc s

/-- `POP DE` (R125), D1. -/
def execPop_DE (s : State) : Answer := popPair .de s

/-- `PUSH DE` (R124), D5. -/
def execPush_DE (s : State) : Answer := pushPair .de s

/-- `POP HL` (R125), E1. -/
def execPop_HL (s : State) : Answer := popPair .hl s

/-- `PUSH HL` (R124), E5. -/
def execPush_HL (s : State) : Answer := pushPair .hl s

/-- `POP AF` (R126), F1. -/
def execPop_AF (s : State) : Answer := popPair .af s

/-- `PUSH AF` (R124), F5. -/
def execPush_AF (s : State) : Answer := pushPair .af s

/-- `LD HL,SP+e8` (R123), F8. -/
def execLd_HL_SP_e8 (e : Byte) (s : State) : Answer := loadHlSp e s

/-- `LD SP,HL` (R122), F9. -/
def execLd_SP_HL (s : State) : Answer := finish 2 { s with sp := s.hl }

end Sys2Proof.Machine
end

