-- ==== Sys2Proof/Machine/Load8.lean ====
section
/-! DEFINITION. 8-bit loads and stores (spec/40_load8.md, R100 to R118). A meaning runs on the state whose PC already points
past the instruction. None writes F. -/

namespace Sys2Proof.Machine

/-- `reg8(y) <- reg8(z)`, 1 M (R100). -/
def loadReg (dst src : Reg8) (s : State) : Answer := finish 1 (s.setReg dst (s.getReg src))

/-- `r <- MemRead(a, 1)`. -/
def loadMem (dst : Reg8) (a : Word) (m : Nat) (s : State) : Answer :=
  andThen (memRead s a) fun v => finish m (s.setReg dst v)

/-- `MemWrite(a, 1, v)`. -/
def storeByte (a : Word) (v : Byte) (m : Nat) (s : State) : Answer :=
  andThen (memWrite s a v) fun s1 => finish m s1

/-- `MemWrite(HL, 1, A); HL <- HL + step`, 2 M (R115, R116). -/
def storeMovingHL (step : Word) (s : State) : Answer :=
  andThen (memWrite s s.hl s.a) fun s1 => finish 2 (s1.setPair .hl (s1.hl + step))

/-- `A <- MemRead(HL, 1); HL <- HL + step`, 2 M (R117, R118). -/
def loadMovingHL (step : Word) (s : State) : Answer :=
  andThen (memRead s s.hl) fun v => finish 2 (({ s with a := v } : State).setPair .hl (s.hl + step))

/-- `LD (BC),A` (R107), 02. -/
def execLd_mBC_A (s : State) : Answer := storeByte s.bc s.a 2 s

/-- `LD B,n8` (R103), 06. -/
def execLd_B_n8 (n : Byte) (s : State) : Answer := finish 2 (s.setReg .b n)

/-- `LD A,(BC)` (R105), 0A. -/
def execLd_A_mBC (s : State) : Answer := loadMem .a s.bc 2 s

/-- `LD C,n8` (R103), 0E. -/
def execLd_C_n8 (n : Byte) (s : State) : Answer := finish 2 (s.setReg .c n)

/-- `LD (DE),A` (R108), 12. -/
def execLd_mDE_A (s : State) : Answer := storeByte s.de s.a 2 s

/-- `LD D,n8` (R103), 16. -/
def execLd_D_n8 (n : Byte) (s : State) : Answer := finish 2 (s.setReg .d n)

/-- `LD A,(DE)` (R106), 1A. -/
def execLd_A_mDE (s : State) : Answer := loadMem .a s.de 2 s

/-- `LD E,n8` (R103), 1E. -/
def execLd_E_n8 (n : Byte) (s : State) : Answer := finish 2 (s.setReg .e n)

/-- `LD (HL+),A` (R115), 22. -/
def execLd_mHLi_A (s : State) : Answer := storeMovingHL 1#16 s

/-- `LD H,n8` (R103), 26. -/
def execLd_H_n8 (n : Byte) (s : State) : Answer := finish 2 (s.setReg .h n)

/-- `LD A,(HL+)` (R117), 2A. -/
def execLd_A_mHLi (s : State) : Answer := loadMovingHL 1#16 s

/-- `LD L,n8` (R103), 2E. -/
def execLd_L_n8 (n : Byte) (s : State) : Answer := finish 2 (s.setReg .l n)

/-- `LD (HL-),A` (R116), 32. -/
def execLd_mHLd_A (s : State) : Answer := storeMovingHL (-1#16) s

/-- `LD (HL),n8` (R104), 36. -/
def execLd_mHL_n8 (n : Byte) (s : State) : Answer := storeByte s.hl n 3 s

/-- `LD A,(HL-)` (R118), 3A. -/
def execLd_A_mHLd (s : State) : Answer := loadMovingHL (-1#16) s

/-- `LD A,n8` (R103), 3E. -/
def execLd_A_n8 (n : Byte) (s : State) : Answer := finish 2 (s.setReg .a n)

/-- `LD B,B` (R100), 40. -/
def execLd_B_B (s : State) : Answer := loadReg .b .b s

/-- `LD B,C` (R100), 41. -/
def execLd_B_C (s : State) : Answer := loadReg .b .c s

/-- `LD B,D` (R100), 42. -/
def execLd_B_D (s : State) : Answer := loadReg .b .d s

/-- `LD B,E` (R100), 43. -/
def execLd_B_E (s : State) : Answer := loadReg .b .e s

/-- `LD B,H` (R100), 44. -/
def execLd_B_H (s : State) : Answer := loadReg .b .h s

/-- `LD B,L` (R100), 45. -/
def execLd_B_L (s : State) : Answer := loadReg .b .l s

/-- `LD B,(HL)` (R101), 46. -/
def execLd_B_mHL (s : State) : Answer := loadMem .b s.hl 2 s

/-- `LD B,A` (R100), 47. -/
def execLd_B_A (s : State) : Answer := loadReg .b .a s

/-- `LD C,B` (R100), 48. -/
def execLd_C_B (s : State) : Answer := loadReg .c .b s

/-- `LD C,C` (R100), 49. -/
def execLd_C_C (s : State) : Answer := loadReg .c .c s

/-- `LD C,D` (R100), 4A. -/
def execLd_C_D (s : State) : Answer := loadReg .c .d s

/-- `LD C,E` (R100), 4B. -/
def execLd_C_E (s : State) : Answer := loadReg .c .e s

/-- `LD C,H` (R100), 4C. -/
def execLd_C_H (s : State) : Answer := loadReg .c .h s

/-- `LD C,L` (R100), 4D. -/
def execLd_C_L (s : State) : Answer := loadReg .c .l s

/-- `LD C,(HL)` (R101), 4E. -/
def execLd_C_mHL (s : State) : Answer := loadMem .c s.hl 2 s

/-- `LD C,A` (R100), 4F. -/
def execLd_C_A (s : State) : Answer := loadReg .c .a s

/-- `LD D,B` (R100), 50. -/
def execLd_D_B (s : State) : Answer := loadReg .d .b s

/-- `LD D,C` (R100), 51. -/
def execLd_D_C (s : State) : Answer := loadReg .d .c s

/-- `LD D,D` (R100), 52. -/
def execLd_D_D (s : State) : Answer := loadReg .d .d s

/-- `LD D,E` (R100), 53. -/
def execLd_D_E (s : State) : Answer := loadReg .d .e s

/-- `LD D,H` (R100), 54. -/
def execLd_D_H (s : State) : Answer := loadReg .d .h s

/-- `LD D,L` (R100), 55. -/
def execLd_D_L (s : State) : Answer := loadReg .d .l s

/-- `LD D,(HL)` (R101), 56. -/
def execLd_D_mHL (s : State) : Answer := loadMem .d s.hl 2 s

/-- `LD D,A` (R100), 57. -/
def execLd_D_A (s : State) : Answer := loadReg .d .a s

/-- `LD E,B` (R100), 58. -/
def execLd_E_B (s : State) : Answer := loadReg .e .b s

/-- `LD E,C` (R100), 59. -/
def execLd_E_C (s : State) : Answer := loadReg .e .c s

/-- `LD E,D` (R100), 5A. -/
def execLd_E_D (s : State) : Answer := loadReg .e .d s

/-- `LD E,E` (R100), 5B. -/
def execLd_E_E (s : State) : Answer := loadReg .e .e s

/-- `LD E,H` (R100), 5C. -/
def execLd_E_H (s : State) : Answer := loadReg .e .h s

/-- `LD E,L` (R100), 5D. -/
def execLd_E_L (s : State) : Answer := loadReg .e .l s

/-- `LD E,(HL)` (R101), 5E. -/
def execLd_E_mHL (s : State) : Answer := loadMem .e s.hl 2 s

/-- `LD E,A` (R100), 5F. -/
def execLd_E_A (s : State) : Answer := loadReg .e .a s

/-- `LD H,B` (R100), 60. -/
def execLd_H_B (s : State) : Answer := loadReg .h .b s

/-- `LD H,C` (R100), 61. -/
def execLd_H_C (s : State) : Answer := loadReg .h .c s

/-- `LD H,D` (R100), 62. -/
def execLd_H_D (s : State) : Answer := loadReg .h .d s

/-- `LD H,E` (R100), 63. -/
def execLd_H_E (s : State) : Answer := loadReg .h .e s

/-- `LD H,H` (R100), 64. -/
def execLd_H_H (s : State) : Answer := loadReg .h .h s

/-- `LD H,L` (R100), 65. -/
def execLd_H_L (s : State) : Answer := loadReg .h .l s

/-- `LD H,(HL)` (R101), 66. -/
def execLd_H_mHL (s : State) : Answer := loadMem .h s.hl 2 s

/-- `LD H,A` (R100), 67. -/
def execLd_H_A (s : State) : Answer := loadReg .h .a s

/-- `LD L,B` (R100), 68. -/
def execLd_L_B (s : State) : Answer := loadReg .l .b s

/-- `LD L,C` (R100), 69. -/
def execLd_L_C (s : State) : Answer := loadReg .l .c s

/-- `LD L,D` (R100), 6A. -/
def execLd_L_D (s : State) : Answer := loadReg .l .d s

/-- `LD L,E` (R100), 6B. -/
def execLd_L_E (s : State) : Answer := loadReg .l .e s

/-- `LD L,H` (R100), 6C. -/
def execLd_L_H (s : State) : Answer := loadReg .l .h s

/-- `LD L,L` (R100), 6D. -/
def execLd_L_L (s : State) : Answer := loadReg .l .l s

/-- `LD L,(HL)` (R101), 6E. -/
def execLd_L_mHL (s : State) : Answer := loadMem .l s.hl 2 s

/-- `LD L,A` (R100), 6F. -/
def execLd_L_A (s : State) : Answer := loadReg .l .a s

/-- `LD (HL),B` (R102), 70. -/
def execLd_mHL_B (s : State) : Answer := storeByte s.hl (s.getReg .b) 2 s

/-- `LD (HL),C` (R102), 71. -/
def execLd_mHL_C (s : State) : Answer := storeByte s.hl (s.getReg .c) 2 s

/-- `LD (HL),D` (R102), 72. -/
def execLd_mHL_D (s : State) : Answer := storeByte s.hl (s.getReg .d) 2 s

/-- `LD (HL),E` (R102), 73. -/
def execLd_mHL_E (s : State) : Answer := storeByte s.hl (s.getReg .e) 2 s

/-- `LD (HL),H` (R102), 74. -/
def execLd_mHL_H (s : State) : Answer := storeByte s.hl (s.getReg .h) 2 s

/-- `LD (HL),L` (R102), 75. -/
def execLd_mHL_L (s : State) : Answer := storeByte s.hl (s.getReg .l) 2 s

/-- `LD (HL),A` (R102), 77. -/
def execLd_mHL_A (s : State) : Answer := storeByte s.hl (s.getReg .a) 2 s

/-- `LD A,B` (R100), 78. -/
def execLd_A_B (s : State) : Answer := loadReg .a .b s

/-- `LD A,C` (R100), 79. -/
def execLd_A_C (s : State) : Answer := loadReg .a .c s

/-- `LD A,D` (R100), 7A. -/
def execLd_A_D (s : State) : Answer := loadReg .a .d s

/-- `LD A,E` (R100), 7B. -/
def execLd_A_E (s : State) : Answer := loadReg .a .e s

/-- `LD A,H` (R100), 7C. -/
def execLd_A_H (s : State) : Answer := loadReg .a .h s

/-- `LD A,L` (R100), 7D. -/
def execLd_A_L (s : State) : Answer := loadReg .a .l s

/-- `LD A,(HL)` (R101), 7E. -/
def execLd_A_mHL (s : State) : Answer := loadMem .a s.hl 2 s

/-- `LD A,A` (R100), 7F. -/
def execLd_A_A (s : State) : Answer := loadReg .a .a s

/-- `LDH (a8),A` (R112), E0. -/
def execLdh_ma8_A (n : Byte) (s : State) : Answer := storeByte (highPage n) s.a 3 s

/-- `LD (C),A` (R114), E2. -/
def execLd_mC_A (s : State) : Answer := storeByte (highPage s.c) s.a 2 s

/-- `LD (a16),A` (R110), EA. -/
def execLd_ma16_A (n : Word) (s : State) : Answer := storeByte n s.a 4 s

/-- `LDH A,(a8)` (R111), F0. -/
def execLdh_A_ma8 (n : Byte) (s : State) : Answer := loadMem .a (highPage n) 3 s

/-- `LD A,(C)` (R113), F2. -/
def execLd_A_mC (s : State) : Answer := loadMem .a (highPage s.c) 2 s

/-- `LD A,(a16)` (R109), FA. -/
def execLd_A_ma16 (n : Word) (s : State) : Answer := loadMem .a n 4 s

end Sys2Proof.Machine
end

