-- ==== Sys2Proof/Machine/Rotate.lean ====
section
/-! DEFINITION. Rotates, shifts and swap (spec/44_rotate_shift.md, R210 to R229). -/

namespace Sys2Proof.Machine

/-- The primitive of `rot(arg)`, with the carry flag in (R200 to R207). -/
def rotResult (op : RotOp) (v : Byte) (carry : Bool) : Rot :=
  match op with
  | .rlc => rlc v
  | .rrc => rrc v
  | .rl => rl v carry
  | .rr => rr v carry
  | .sla => sla v
  | .sra => sra v
  | .swap => swap v
  | .srl => srl v

/-- `RLCA`, `RRCA`, `RLA`, `RRA`, 1 M: Z is stored as 0 (R210). -/
def rotateA (op : RotOp) (s : State) : Answer :=
  let r := rotResult op s.a s.flagC
  finish 1 (({ s with a := r.value } : State).setFlags false false false r.c)

/-- The CB forms: read `reg8`, rotate, write it back, Z from the result (R214 to R229). -/
def rotateOperand (op : RotOp) (o : Operand8) (m : Nat) (s : State) : Answer :=
  andThen (readOperand s o) fun v =>
    let r := rotResult op v s.flagC
    andThen (writeOperand s o r.value) fun s1 =>
      finish m (s1.setFlags (decide (r.value = 0#8)) false false r.c)

/-- `RLCA` (R210), 07. -/
def execRlca (s : State) : Answer := rotateA .rlc s

/-- `RRCA` (R211), 0F. -/
def execRrca (s : State) : Answer := rotateA .rrc s

/-- `RLA` (R212), 17. -/
def execRla (s : State) : Answer := rotateA .rl s

/-- `RRA` (R213), 1F. -/
def execRra (s : State) : Answer := rotateA .rr s

/-- `RLC B` (R214), CB 00. -/
def execRlc_B (s : State) : Answer := rotateOperand .rlc (.reg .b) 2 s

/-- `RLC C` (R214), CB 01. -/
def execRlc_C (s : State) : Answer := rotateOperand .rlc (.reg .c) 2 s

/-- `RLC D` (R214), CB 02. -/
def execRlc_D (s : State) : Answer := rotateOperand .rlc (.reg .d) 2 s

/-- `RLC E` (R214), CB 03. -/
def execRlc_E (s : State) : Answer := rotateOperand .rlc (.reg .e) 2 s

/-- `RLC H` (R214), CB 04. -/
def execRlc_H (s : State) : Answer := rotateOperand .rlc (.reg .h) 2 s

/-- `RLC L` (R214), CB 05. -/
def execRlc_L (s : State) : Answer := rotateOperand .rlc (.reg .l) 2 s

/-- `RLC (HL)` (R215), CB 06. -/
def execRlc_mHL (s : State) : Answer := rotateOperand .rlc .memHL 4 s

/-- `RLC A` (R214), CB 07. -/
def execRlc_A (s : State) : Answer := rotateOperand .rlc (.reg .a) 2 s

/-- `RRC B` (R216), CB 08. -/
def execRrc_B (s : State) : Answer := rotateOperand .rrc (.reg .b) 2 s

/-- `RRC C` (R216), CB 09. -/
def execRrc_C (s : State) : Answer := rotateOperand .rrc (.reg .c) 2 s

/-- `RRC D` (R216), CB 0A. -/
def execRrc_D (s : State) : Answer := rotateOperand .rrc (.reg .d) 2 s

/-- `RRC E` (R216), CB 0B. -/
def execRrc_E (s : State) : Answer := rotateOperand .rrc (.reg .e) 2 s

/-- `RRC H` (R216), CB 0C. -/
def execRrc_H (s : State) : Answer := rotateOperand .rrc (.reg .h) 2 s

/-- `RRC L` (R216), CB 0D. -/
def execRrc_L (s : State) : Answer := rotateOperand .rrc (.reg .l) 2 s

/-- `RRC (HL)` (R217), CB 0E. -/
def execRrc_mHL (s : State) : Answer := rotateOperand .rrc .memHL 4 s

/-- `RRC A` (R216), CB 0F. -/
def execRrc_A (s : State) : Answer := rotateOperand .rrc (.reg .a) 2 s

/-- `RL B` (R218), CB 10. -/
def execRl_B (s : State) : Answer := rotateOperand .rl (.reg .b) 2 s

/-- `RL C` (R218), CB 11. -/
def execRl_C (s : State) : Answer := rotateOperand .rl (.reg .c) 2 s

/-- `RL D` (R218), CB 12. -/
def execRl_D (s : State) : Answer := rotateOperand .rl (.reg .d) 2 s

/-- `RL E` (R218), CB 13. -/
def execRl_E (s : State) : Answer := rotateOperand .rl (.reg .e) 2 s

/-- `RL H` (R218), CB 14. -/
def execRl_H (s : State) : Answer := rotateOperand .rl (.reg .h) 2 s

/-- `RL L` (R218), CB 15. -/
def execRl_L (s : State) : Answer := rotateOperand .rl (.reg .l) 2 s

/-- `RL (HL)` (R219), CB 16. -/
def execRl_mHL (s : State) : Answer := rotateOperand .rl .memHL 4 s

/-- `RL A` (R218), CB 17. -/
def execRl_A (s : State) : Answer := rotateOperand .rl (.reg .a) 2 s

/-- `RR B` (R220), CB 18. -/
def execRr_B (s : State) : Answer := rotateOperand .rr (.reg .b) 2 s

/-- `RR C` (R220), CB 19. -/
def execRr_C (s : State) : Answer := rotateOperand .rr (.reg .c) 2 s

/-- `RR D` (R220), CB 1A. -/
def execRr_D (s : State) : Answer := rotateOperand .rr (.reg .d) 2 s

/-- `RR E` (R220), CB 1B. -/
def execRr_E (s : State) : Answer := rotateOperand .rr (.reg .e) 2 s

/-- `RR H` (R220), CB 1C. -/
def execRr_H (s : State) : Answer := rotateOperand .rr (.reg .h) 2 s

/-- `RR L` (R220), CB 1D. -/
def execRr_L (s : State) : Answer := rotateOperand .rr (.reg .l) 2 s

/-- `RR (HL)` (R221), CB 1E. -/
def execRr_mHL (s : State) : Answer := rotateOperand .rr .memHL 4 s

/-- `RR A` (R220), CB 1F. -/
def execRr_A (s : State) : Answer := rotateOperand .rr (.reg .a) 2 s

/-- `SLA B` (R222), CB 20. -/
def execSla_B (s : State) : Answer := rotateOperand .sla (.reg .b) 2 s

/-- `SLA C` (R222), CB 21. -/
def execSla_C (s : State) : Answer := rotateOperand .sla (.reg .c) 2 s

/-- `SLA D` (R222), CB 22. -/
def execSla_D (s : State) : Answer := rotateOperand .sla (.reg .d) 2 s

/-- `SLA E` (R222), CB 23. -/
def execSla_E (s : State) : Answer := rotateOperand .sla (.reg .e) 2 s

/-- `SLA H` (R222), CB 24. -/
def execSla_H (s : State) : Answer := rotateOperand .sla (.reg .h) 2 s

/-- `SLA L` (R222), CB 25. -/
def execSla_L (s : State) : Answer := rotateOperand .sla (.reg .l) 2 s

/-- `SLA (HL)` (R223), CB 26. -/
def execSla_mHL (s : State) : Answer := rotateOperand .sla .memHL 4 s

/-- `SLA A` (R222), CB 27. -/
def execSla_A (s : State) : Answer := rotateOperand .sla (.reg .a) 2 s

/-- `SRA B` (R224), CB 28. -/
def execSra_B (s : State) : Answer := rotateOperand .sra (.reg .b) 2 s

/-- `SRA C` (R224), CB 29. -/
def execSra_C (s : State) : Answer := rotateOperand .sra (.reg .c) 2 s

/-- `SRA D` (R224), CB 2A. -/
def execSra_D (s : State) : Answer := rotateOperand .sra (.reg .d) 2 s

/-- `SRA E` (R224), CB 2B. -/
def execSra_E (s : State) : Answer := rotateOperand .sra (.reg .e) 2 s

/-- `SRA H` (R224), CB 2C. -/
def execSra_H (s : State) : Answer := rotateOperand .sra (.reg .h) 2 s

/-- `SRA L` (R224), CB 2D. -/
def execSra_L (s : State) : Answer := rotateOperand .sra (.reg .l) 2 s

/-- `SRA (HL)` (R225), CB 2E. -/
def execSra_mHL (s : State) : Answer := rotateOperand .sra .memHL 4 s

/-- `SRA A` (R224), CB 2F. -/
def execSra_A (s : State) : Answer := rotateOperand .sra (.reg .a) 2 s

/-- `SWAP B` (R226), CB 30. -/
def execSwap_B (s : State) : Answer := rotateOperand .swap (.reg .b) 2 s

/-- `SWAP C` (R226), CB 31. -/
def execSwap_C (s : State) : Answer := rotateOperand .swap (.reg .c) 2 s

/-- `SWAP D` (R226), CB 32. -/
def execSwap_D (s : State) : Answer := rotateOperand .swap (.reg .d) 2 s

/-- `SWAP E` (R226), CB 33. -/
def execSwap_E (s : State) : Answer := rotateOperand .swap (.reg .e) 2 s

/-- `SWAP H` (R226), CB 34. -/
def execSwap_H (s : State) : Answer := rotateOperand .swap (.reg .h) 2 s

/-- `SWAP L` (R226), CB 35. -/
def execSwap_L (s : State) : Answer := rotateOperand .swap (.reg .l) 2 s

/-- `SWAP (HL)` (R227), CB 36. -/
def execSwap_mHL (s : State) : Answer := rotateOperand .swap .memHL 4 s

/-- `SWAP A` (R226), CB 37. -/
def execSwap_A (s : State) : Answer := rotateOperand .swap (.reg .a) 2 s

/-- `SRL B` (R228), CB 38. -/
def execSrl_B (s : State) : Answer := rotateOperand .srl (.reg .b) 2 s

/-- `SRL C` (R228), CB 39. -/
def execSrl_C (s : State) : Answer := rotateOperand .srl (.reg .c) 2 s

/-- `SRL D` (R228), CB 3A. -/
def execSrl_D (s : State) : Answer := rotateOperand .srl (.reg .d) 2 s

/-- `SRL E` (R228), CB 3B. -/
def execSrl_E (s : State) : Answer := rotateOperand .srl (.reg .e) 2 s

/-- `SRL H` (R228), CB 3C. -/
def execSrl_H (s : State) : Answer := rotateOperand .srl (.reg .h) 2 s

/-- `SRL L` (R228), CB 3D. -/
def execSrl_L (s : State) : Answer := rotateOperand .srl (.reg .l) 2 s

/-- `SRL (HL)` (R229), CB 3E. -/
def execSrl_mHL (s : State) : Answer := rotateOperand .srl .memHL 4 s

/-- `SRL A` (R228), CB 3F. -/
def execSrl_A (s : State) : Answer := rotateOperand .srl (.reg .a) 2 s

end Sys2Proof.Machine
end

