-- ==== Sys2Proof/Machine/Prefix.lean ====
section
/-! DEFINITION. The prefix row 0xCB (spec/30_encoding.md R84): the CB entry that the byte after it selects, read by the
fields of R81. The decoder gives the CB rows themselves and never this row. -/

namespace Sys2Proof.Machine

/-- The CB entry of the byte `o`: class `o[7:6]`, argument `o[5:3]`, operand `o[2:0]` (R81, R82), at the costs of R89. -/
def cbEntry (o : Byte) (s : State) : Answer :=
  let arg := o.extractLsb' 3 3
  let operand := operandOfIndex (o.extractLsb' 0 3)
  let onMem : Bool := decide (operand = .memHL)
  match (o.extractLsb' 6 2).toNat with
  | 0 => rotateOperand (rotOfIndex arg) operand (if onMem then 4 else 2) s
  | 1 => testBit arg operand (if onMem then 3 else 2) s
  | 2 => resetBit arg operand (if onMem then 4 else 2) s
  | _ => setBit arg operand (if onMem then 4 else 2) s

/-- `(prefix CB)` (R84), CB. -/
def execPrefixCB (o : Byte) (s : State) : Answer := cbEntry o s

end Sys2Proof.Machine
end

