-- ==== Sys2Proof/Machine/System.lean ====
section
/-! DEFINITION. NOP, HALT, STOP, DI, EI and the undefined base opcodes (spec/47_system.md, R270 to R275). `DI` cancels the
pending `arm` of the step it runs in; `EI` sets the latch the next step consumes (R85). -/

namespace Sys2Proof.Machine

/-- `NOP` (R270), 00. -/
def execNop (s : State) : Answer := finish 1 s

/-- `STOP` (R272), 10: the byte after the opcode is fetched and ignored. -/
def execStop (_n : Byte) (s : State) : Answer := finish 1 { s with stopped := true }

/-- `HALT` (R271), 76. -/
def execHalt (s : State) : Answer := finish 1 { s with halted := true }

/-- `(undefined 0xD3)` (R275), D3. -/
def execUndefined_D3 (_s : State) : Answer := .fault (.unknownOpcode .base 0xD3#8)

/-- `(undefined 0xDB)` (R275), DB. -/
def execUndefined_DB (_s : State) : Answer := .fault (.unknownOpcode .base 0xDB#8)

/-- `(undefined 0xDD)` (R275), DD. -/
def execUndefined_DD (_s : State) : Answer := .fault (.unknownOpcode .base 0xDD#8)

/-- `(undefined 0xE3)` (R275), E3. -/
def execUndefined_E3 (_s : State) : Answer := .fault (.unknownOpcode .base 0xE3#8)

/-- `(undefined 0xE4)` (R275), E4. -/
def execUndefined_E4 (_s : State) : Answer := .fault (.unknownOpcode .base 0xE4#8)

/-- `(undefined 0xEB)` (R275), EB. -/
def execUndefined_EB (_s : State) : Answer := .fault (.unknownOpcode .base 0xEB#8)

/-- `(undefined 0xEC)` (R275), EC. -/
def execUndefined_EC (_s : State) : Answer := .fault (.unknownOpcode .base 0xEC#8)

/-- `(undefined 0xED)` (R275), ED. -/
def execUndefined_ED (_s : State) : Answer := .fault (.unknownOpcode .base 0xED#8)

/-- `DI` (R273), F3. -/
def execDi (s : State) : Answer := finish 1 { s with ime := false, arm := false }

/-- `(undefined 0xF4)` (R275), F4. -/
def execUndefined_F4 (_s : State) : Answer := .fault (.unknownOpcode .base 0xF4#8)

/-- `EI` (R274), FB. -/
def execEi (s : State) : Answer := finish 1 { s with eiDelay := true }

/-- `(undefined 0xFC)` (R275), FC. -/
def execUndefined_FC (_s : State) : Answer := .fault (.unknownOpcode .base 0xFC#8)

/-- `(undefined 0xFD)` (R275), FD. -/
def execUndefined_FD (_s : State) : Answer := .fault (.unknownOpcode .base 0xFD#8)

end Sys2Proof.Machine
end

