-- ==== Sys2Proof/Machine/Cpu.lean ====
section
/-! DEFINITION. `Step()` of spec/30_encoding.md R85: an idle tick, an interrupt service, or one instruction. -/

namespace Sys2Proof.Machine

/-- The end of an executed instruction (R85): `if arm = 1: IME <- 1`, and the step-local `arm` is gone. -/
def retire (r : Answer) : Answer :=
  match r with
  | .next s => .next { s with ime := s.ime || s.arm, arm := false }
  | .fault f => .fault f
  | .refused f => .refused f

/-- Fetch one instruction and execute it, the EI latch moved into `arm` first (R85). -/
def runInstr (s : State) : Answer :=
  andThen (fetchInstr { s with arm := s.eiDelay, eiDelay := false }) fun r => retire (exec r.1 r.2)

/-- The halt wake: a halted CPU with an interrupt pending runs on (R317). -/
def haltWake (s : State) : State :=
  if s.halted && decide (pending s ≠ 0#8) then { s with halted := false } else s

/-- `Step()` (R85). The stop test comes first (R318), then the halt wake (R317), the interrupt service (R313), the halted
tick, and the instruction. -/
def cpuStep (s : State) : Answer :=
  if s.stopped then
    finish 1 (if (handleValue s ioIF).getLsbD 4 then { s with stopped := false } else s)
  else
    let s1 := haltWake s
    if s1.ime && decide (pending s1 ≠ 0#8) then serviceInterrupt s1 (lowestPending (pending s1))
    else if s1.halted then finish 1 s1
    else runInstr s1

end Sys2Proof.Machine
end

