-- ==== Sys2Proof/Machine/Env.lean ====
section
/-! DEFINITION. The environment agent's moves between ticks (spec/00_scope.md R5). -/

namespace Sys2Proof.Machine

/-- One move. An address outside what R5 lets the environment write leaves the state as it is. R5 lets the environment
write any byte to any address of ENV_REGS, and says that it never writes wave RAM or the sound registers; R311 says that it
never clears a bit of IF. For an ENV_REGS that names one of those, or IF, or IE, the model lets ENV_REGS decide and makes
the write as R5 has it, which may clear bits of IF. DESIGN CHOICE, safe (log 13). -/
def envMove (P : Config.Params) (s : State) (m : EnvMove) : State :=
  match m with
  | .requestIrq bits => handleWrite s ioIF (handleValue s ioIF ||| bits.setWidth 8)
  | .writeReg a v => if P.envRegs a && isHandle a.toNat then handleWrite s a v else s
  | .writeOam a v => if regionOf a = .oam then { s with mem := Memory.put s.mem (storageAddr a) v } else s
  | .setCart cs => { s with cart := { s.cart with state := cs } }

/-- `env_move()` of one tick (R4): the moves at the head of `env`, in order; none when `env` is empty. -/
def envPhase (P : Config.Params) (s : State) : State :=
  match s.env with
  | [] => s
  | moves :: rest => moves.foldl (envMove P) { s with env := rest }

end Sys2Proof.Machine
end

