-- ==== Sys2Proof/Machine/Tick.lean ====
section
/-! DEFINITION. One tick of the scheduler (spec/00_scope.md R4) for given parameters, and the state a run holds after it. -/

namespace Sys2Proof.Machine

/-- One scheduler tick (R4): the environment's moves, `Step()`, then `APU.run(4·m)` for the m machine cycles the step
returned. A fault ends the tick with no run of the APU, and a faulted machine has no further step (R301). -/
def tick (P : Config.Params) (s : State) : Answer :=
  match s.status with
  | .faulted f => .fault f
  | .running =>
    match cpuStep (envPhase P s) with
    | .next t => .next (apuRun P ((4 * t.cycles : Nat) : Rat) t)
    | .fault f => .fault f
    | .refused r => .refused r

/-- The state after a tick, the run status included (R301): after a fault it is the state before `Step()`, with the
status `Faulted(f)`. -/
def afterTick (P : Config.Params) (s : State) : State :=
  match tick P s with
  | .next t => t
  | .fault f => if s.status = .running then { envPhase P s with status := .faulted f } else s
  | .refused _ => s

end Sys2Proof.Machine
end

