-- ==== Sys2Proof/Machine/Step.lean ====
section
/-! DEFINITION. One step of the machine, a scheduler tick (spec/00_scope.md R4) at the default parameters, and the placing
of an instruction where the next step fetches it. -/

namespace Sys2Proof.Machine

/-- The step of the machine: a tick at the default parameters (R4, R7). -/
def step (s : State) : Host.Outcome State Fault Refusal := tick Config.default s

/-- The state with the bytes of a table word stored where the next step fetches: at PC and the addresses after it. -/
def State.withFetchWord (s : State) (nbits w : Nat) : State :=
  storeFetchBytes s s.pc (tableBytes nbits w)

end Sys2Proof.Machine
end

