-- ==== Sys2Proof/Machine/Run.lean ====
section
/-! DEFINITION. Runs of the scheduler, and where a run ends (spec/70_reset_and_hazards.md R417). -/

namespace Sys2Proof.Machine

/-- The conditions of R417 on a tick boundary: status Running, not halted, not stopped, PC at END_PC. A faulted state
never meets them. -/
def atEnd (endPc : Word) (s : State) : Bool :=
  decide (s.status = .running ∧ s.halted = false ∧ s.stopped = false ∧ s.pc = endPc)

/-- The states the scheduler's loop passes through: one after each tick (R4). The loop itself has no end; where a run
ends is `runToEnd`. -/
def runTicks (P : Config.Params) : Nat → State → State
  | 0, s => s
  | k + 1, s => runTicks P k (afterTick P s)

/-- The end state of a run (R417): the state at the FIRST tick boundary that meets the conditions, if it comes within
`k` ticks; `none` if it does not. A run that gives `none` for every `k` has no end state. The launch, before any tick, is
counted as a boundary. DESIGN CHOICE, unsafe (log 15). -/
def runToEnd (P : Config.Params) (endPc : Word) : Nat → State → Option State
  | 0, s => if atEnd endPc s then some s else none
  | k + 1, s => if atEnd endPc s then some s else runToEnd P endPc k (afterTick P s)

end Sys2Proof.Machine
end

