-- ==== Sys2Proof/Safety.lean ====
section
/-! DEFINITION. What claims about the machine are stated in: the invariants of a state and the frames of an
operation. -/

namespace Sys2Proof.Machine

/-! ### Invariants -/

/-- Memory and the version counters are in canonical form. -/
def State.memOk (s : State) : Prop := Memory.wf s.mem ∧ Versions.wf s.versions

/-- F's bits 3:0 are 0 (R11). -/
def State.flagsOk (s : State) : Prop := s.f &&& 0x0F#8 = 0#8

/-- The ranges R41 gives a voice: frequency not negative, amplitude in [0, 1]. -/
def Voice.ok (v : Voice) : Prop := 0 ≤ v.frequency ∧ 0 ≤ v.amplitude ∧ v.amplitude ≤ 1

/-- Elapsed time is not negative (R42). -/
def Envelope.ok {P : Type} (e : Envelope P) : Prop := 0 ≤ e.elapsed

/-- The ranges of R41 and R42 over the whole APU; only the wave voice is ever muted (R41). -/
def Apu.ok (u : Apu) : Prop :=
  (u.pulseA.voice.ok ∧ u.pulseB.voice.ok ∧ u.wave.voice.ok ∧ u.noise.voice.ok) ∧
  (u.pulseA.voice.muted = false ∧ u.pulseB.voice.muted = false ∧ u.noise.voice.muted = false) ∧
  (u.pulseA.amp.ok ∧ u.pulseA.len.ok ∧ u.pulseA.sweep.ok ∧ u.pulseB.amp.ok ∧ u.pulseB.len.ok ∧ u.wave.len.ok ∧
    u.noise.amp.ok ∧ u.noise.len.ok)

/-- The invariant of the state between two ticks. -/
def State.Inv (s : State) : Prop := s.memOk ∧ s.flagsOk ∧ s.apu.ok ∧ s.arm = false

/-! ### Frames -/

/-- `t` is `s` but for what a bus write can change: stored bytes, versions and the cartridge's internal state. -/
def State.sameButBus (s t : State) : Prop :=
  t = { s with mem := t.mem, versions := t.versions, cart := { s.cart with state := t.cart.state } }

/-- `t` is `s` in everything no instruction may touch: the APU, the run status, the environment's moves, the output port
and the cartridge's answers. -/
def State.sameOutsideCpu (s t : State) : Prop :=
  t.apu = s.apu ∧ t.status = s.status ∧ t.env = s.env ∧ t.sink = s.sink ∧ t.cart.reads = s.cart.reads ∧
    t.cart.writes = s.cart.writes

/-- `t` is `s` in everything only the CPU may touch: registers, control state, run status, environment, cartridge. -/
def State.sameCpu (s t : State) : Prop :=
  t = { s with mem := t.mem, versions := t.versions, apu := t.apu, sink := t.sink }

/-- `t` has the control state of `s`: IME, the EI latch and its step-local copy, halted and stopped (R15 to R18). -/
def State.sameControl (s t : State) : Prop :=
  t.ime = s.ime ∧ t.eiDelay = s.eiDelay ∧ t.halted = s.halted ∧ t.stopped = s.stopped ∧ t.arm = s.arm

/-- What the machine's own writes may do to memory over any time: the canonical form holds, the ROM image never changes,
no version falls, and a handle's value changes only with its version (R29, R52, R61, R62). -/
def State.evolves (s t : State) : Prop :=
  t.memOk ∧ (∀ n, n < 0x8000 → Memory.get t.mem n = Memory.get s.mem n) ∧
  (∀ a : Word, handleVersion s a ≤ handleVersion t a) ∧
  (∀ a : Word, isHandle a.toNat = true → handleVersion t a = handleVersion s a → handleValue t a = handleValue s a)

/-- The address is in a range the cartridge answers for (R53). -/
def inCart (a : Word) : Bool := decide (a.toNat < 0x8000) || decide (0xA000 ≤ a.toNat ∧ a.toNat < 0xC000)

/-- A cartridge that refuses nothing (R53). The default cartridge is one. -/
def Cart.acceptsAll (c : Cart) : Bool :=
  c.reads.all (fun r => r.answer.isSome) && c.writes.all (fun r => r.answer.isSome)

/-- The bus reads the given bytes at an address and those after it (R50, R51). -/
def readsBytes (s : State) : Word → List Byte → Prop
  | _, [] => True
  | a, v :: rest => memRead s a = .ok v ∧ readsBytes s (a + 1#16) rest

end Sys2Proof.Machine
end

