-- ==== Sys2Proof/Certificates/Slice0/Obligations.lean ====
section
/-! DEFINITION. The statements for the provers. The rules of spec/ are written here a second time, as tables and plain
arithmetic in `Sys2Proof.Claims`, and the model is stated to agree with them. No statement speaks of a program. -/

namespace Sys2Proof.Claims

open Sys2Proof.Machine

/-! ### Tables of instructions, by the operand tables of R82 -/

/-- The index of a register in `reg8` (R82). -/
def regIndex : Reg8 → Nat
  | .b => 0
  | .c => 1
  | .d => 2
  | .e => 3
  | .h => 4
  | .l => 5
  | .a => 7

/-- The index of an operand in `reg8` (R82): 6 is the byte at HL. -/
def operandIndex : Operand8 → Nat
  | .reg r => regIndex r
  | .memHL => 6

/-- The index of a pair in `rp` (R82). -/
def pairIndex : Pair → Nat
  | .bc => 0
  | .de => 1
  | .hl => 2
  | .sp => 3

/-- The index of a pair in `rp2` (R82). -/
def stackPairIndex : StackPair → Nat
  | .bc => 0
  | .de => 1
  | .hl => 2
  | .af => 3

/-- The index of a condition in `cc` (R82). -/
def condIndex : Cond → Nat
  | .nz => 0
  | .z => 1
  | .nc => 2
  | .c => 3

/-- The index of a rotate or shift in `rot` (R82). -/
def rotIndex : RotOp → Nat
  | .rlc => 0
  | .rrc => 1
  | .rl => 2
  | .rr => 3
  | .sla => 4
  | .sra => 5
  | .swap => 6
  | .srl => 7

/-- These bytes are one instruction, the given one. -/
def Encodes (bs : List Byte) (i : Instr) : Prop := decode bs = .ok (i, [])

/-- An opcode byte. -/
def opByte (n : Nat) : Byte := BitVec.ofNat 8 n

/-- `LD r,r'`: destination, source (R100). -/
def loadRegRows : List (Instr × Reg8 × Reg8) :=
  [(.ld_B_B, .b, .b), (.ld_B_C, .b, .c), (.ld_B_D, .b, .d), (.ld_B_E, .b, .e), (.ld_B_H, .b, .h), (.ld_B_L, .b, .l),
   (.ld_B_A, .b, .a), (.ld_C_B, .c, .b), (.ld_C_C, .c, .c), (.ld_C_D, .c, .d), (.ld_C_E, .c, .e), (.ld_C_H, .c, .h),
   (.ld_C_L, .c, .l), (.ld_C_A, .c, .a), (.ld_D_B, .d, .b), (.ld_D_C, .d, .c), (.ld_D_D, .d, .d), (.ld_D_E, .d, .e),
   (.ld_D_H, .d, .h), (.ld_D_L, .d, .l), (.ld_D_A, .d, .a), (.ld_E_B, .e, .b), (.ld_E_C, .e, .c), (.ld_E_D, .e, .d),
   (.ld_E_E, .e, .e), (.ld_E_H, .e, .h), (.ld_E_L, .e, .l), (.ld_E_A, .e, .a), (.ld_H_B, .h, .b), (.ld_H_C, .h, .c),
   (.ld_H_D, .h, .d), (.ld_H_E, .h, .e), (.ld_H_H, .h, .h), (.ld_H_L, .h, .l), (.ld_H_A, .h, .a), (.ld_L_B, .l, .b),
   (.ld_L_C, .l, .c), (.ld_L_D, .l, .d), (.ld_L_E, .l, .e), (.ld_L_H, .l, .h), (.ld_L_L, .l, .l), (.ld_L_A, .l, .a),
   (.ld_A_B, .a, .b), (.ld_A_C, .a, .c), (.ld_A_D, .a, .d), (.ld_A_E, .a, .e), (.ld_A_H, .a, .h), (.ld_A_L, .a, .l),
   (.ld_A_A, .a, .a)]

/-- `LD r,n8` (R103). -/
def loadImmRows : List ((Byte → Instr) × Reg8) :=
  [(.ld_B_n8, .b), (.ld_C_n8, .c), (.ld_D_n8, .d), (.ld_E_n8, .e), (.ld_H_n8, .h), (.ld_L_n8, .l), (.ld_A_n8, .a)]

/-- `LD r,(HL)` (R101). -/
def loadFromHLRows : List (Instr × Reg8) :=
  [(.ld_B_mHL, .b), (.ld_C_mHL, .c), (.ld_D_mHL, .d), (.ld_E_mHL, .e), (.ld_H_mHL, .h), (.ld_L_mHL, .l),
   (.ld_A_mHL, .a)]

/-- `LD (HL),r` (R102). -/
def storeToHLRows : List (Instr × Reg8) :=
  [(.ld_mHL_B, .b), (.ld_mHL_C, .c), (.ld_mHL_D, .d), (.ld_mHL_E, .e), (.ld_mHL_H, .h), (.ld_mHL_L, .l),
   (.ld_mHL_A, .a)]

/-- `LD rr,n16` (R120). -/
def loadPairRows : List ((Word → Instr) × Pair) :=
  [(.ld_BC_n16, .bc), (.ld_DE_n16, .de), (.ld_HL_n16, .hl), (.ld_SP_n16, .sp)]

/-- `PUSH rr` (R124). -/
def pushRows : List (Instr × StackPair) :=
  [(.push_BC, .bc), (.push_DE, .de), (.push_HL, .hl), (.push_AF, .af)]

/-- `POP rr` (R125, R126). -/
def popRows : List (Instr × StackPair) :=
  [(.pop_BC, .bc), (.pop_DE, .de), (.pop_HL, .hl), (.pop_AF, .af)]

/-- `ADD` on each operand of `reg8` (R82). -/
def addRows : List (Instr × Operand8) :=
  [(.add_A_B, .reg .b), (.add_A_C, .reg .c), (.add_A_D, .reg .d), (.add_A_E, .reg .e), (.add_A_H, .reg .h),
   (.add_A_L, .reg .l), (.add_A_mHL, .memHL), (.add_A_A, .reg .a)]

/-- `ADC` on each operand of `reg8` (R82). -/
def adcRows : List (Instr × Operand8) :=
  [(.adc_A_B, .reg .b), (.adc_A_C, .reg .c), (.adc_A_D, .reg .d), (.adc_A_E, .reg .e), (.adc_A_H, .reg .h),
   (.adc_A_L, .reg .l), (.adc_A_mHL, .memHL), (.adc_A_A, .reg .a)]

/-- `SUB` on each operand of `reg8` (R82). -/
def subRows : List (Instr × Operand8) :=
  [(.sub_B, .reg .b), (.sub_C, .reg .c), (.sub_D, .reg .d), (.sub_E, .reg .e), (.sub_H, .reg .h), (.sub_L, .reg .l),
   (.sub_mHL, .memHL), (.sub_A, .reg .a)]

/-- `SBC` on each operand of `reg8` (R82). -/
def sbcRows : List (Instr × Operand8) :=
  [(.sbc_A_B, .reg .b), (.sbc_A_C, .reg .c), (.sbc_A_D, .reg .d), (.sbc_A_E, .reg .e), (.sbc_A_H, .reg .h),
   (.sbc_A_L, .reg .l), (.sbc_A_mHL, .memHL), (.sbc_A_A, .reg .a)]

/-- `AND` on each operand of `reg8` (R82). -/
def andRows : List (Instr × Operand8) :=
  [(.and_B, .reg .b), (.and_C, .reg .c), (.and_D, .reg .d), (.and_E, .reg .e), (.and_H, .reg .h), (.and_L, .reg .l),
   (.and_mHL, .memHL), (.and_A, .reg .a)]

/-- `XOR` on each operand of `reg8` (R82). -/
def xorRows : List (Instr × Operand8) :=
  [(.xor_B, .reg .b), (.xor_C, .reg .c), (.xor_D, .reg .d), (.xor_E, .reg .e), (.xor_H, .reg .h), (.xor_L, .reg .l),
   (.xor_mHL, .memHL), (.xor_A, .reg .a)]

/-- `OR` on each operand of `reg8` (R82). -/
def orRows : List (Instr × Operand8) :=
  [(.or_B, .reg .b), (.or_C, .reg .c), (.or_D, .reg .d), (.or_E, .reg .e), (.or_H, .reg .h), (.or_L, .reg .l),
   (.or_mHL, .memHL), (.or_A, .reg .a)]

/-- `CP` on each operand of `reg8` (R82). -/
def cpRows : List (Instr × Operand8) :=
  [(.cp_B, .reg .b), (.cp_C, .reg .c), (.cp_D, .reg .d), (.cp_E, .reg .e), (.cp_H, .reg .h), (.cp_L, .reg .l),
   (.cp_mHL, .memHL), (.cp_A, .reg .a)]

/-- `INC r` (R174). -/
def incRows : List (Instr × Reg8) :=
  [(.inc_B, .b), (.inc_C, .c), (.inc_D, .d), (.inc_E, .e), (.inc_H, .h), (.inc_L, .l), (.inc_A, .a)]

/-- `DEC r` (R176). -/
def decRows : List (Instr × Reg8) :=
  [(.dec_B, .b), (.dec_C, .c), (.dec_D, .d), (.dec_E, .e), (.dec_H, .h), (.dec_L, .l), (.dec_A, .a)]

/-- `ADD HL,rr` (R192). -/
def addHlRows : List (Instr × Pair) :=
  [(.add_HL_BC, .bc), (.add_HL_DE, .de), (.add_HL_HL, .hl), (.add_HL_SP, .sp)]

/-- `INC rr` (R193). -/
def incPairRows : List (Instr × Pair) :=
  [(.inc_BC, .bc), (.inc_DE, .de), (.inc_HL, .hl), (.inc_SP, .sp)]

/-- `DEC rr` (R194). -/
def decPairRows : List (Instr × Pair) :=
  [(.dec_BC, .bc), (.dec_DE, .de), (.dec_HL, .hl), (.dec_SP, .sp)]

/-- `RLCA`, `RRCA`, `RLA`, `RRA` (R210 to R213). -/
def rotateARows : List (Instr × RotOp) :=
  [(.rlca, .rlc), (.rrca, .rrc), (.rla, .rl), (.rra, .rr)]

/-- The CB rotates and shifts of a register (R214 to R229). -/
def rotateRegRows : List (Instr × RotOp × Reg8) :=
  [(.rlc_B, .rlc, .b), (.rlc_C, .rlc, .c), (.rlc_D, .rlc, .d), (.rlc_E, .rlc, .e), (.rlc_H, .rlc, .h),
   (.rlc_L, .rlc, .l), (.rlc_A, .rlc, .a), (.rrc_B, .rrc, .b), (.rrc_C, .rrc, .c), (.rrc_D, .rrc, .d),
   (.rrc_E, .rrc, .e), (.rrc_H, .rrc, .h), (.rrc_L, .rrc, .l), (.rrc_A, .rrc, .a), (.rl_B, .rl, .b),
   (.rl_C, .rl, .c), (.rl_D, .rl, .d), (.rl_E, .rl, .e), (.rl_H, .rl, .h), (.rl_L, .rl, .l), (.rl_A, .rl, .a),
   (.rr_B, .rr, .b), (.rr_C, .rr, .c), (.rr_D, .rr, .d), (.rr_E, .rr, .e), (.rr_H, .rr, .h), (.rr_L, .rr, .l),
   (.rr_A, .rr, .a), (.sla_B, .sla, .b), (.sla_C, .sla, .c), (.sla_D, .sla, .d), (.sla_E, .sla, .e),
   (.sla_H, .sla, .h), (.sla_L, .sla, .l), (.sla_A, .sla, .a), (.sra_B, .sra, .b), (.sra_C, .sra, .c),
   (.sra_D, .sra, .d), (.sra_E, .sra, .e), (.sra_H, .sra, .h), (.sra_L, .sra, .l), (.sra_A, .sra, .a),
   (.swap_B, .swap, .b), (.swap_C, .swap, .c), (.swap_D, .swap, .d), (.swap_E, .swap, .e), (.swap_H, .swap, .h),
   (.swap_L, .swap, .l), (.swap_A, .swap, .a), (.srl_B, .srl, .b), (.srl_C, .srl, .c), (.srl_D, .srl, .d),
   (.srl_E, .srl, .e), (.srl_H, .srl, .h), (.srl_L, .srl, .l), (.srl_A, .srl, .a)]

/-- The CB rotates and shifts of the byte at HL (R215 to R229). -/
def rotateMemRows : List (Instr × RotOp) :=
  [(.rlc_mHL, .rlc), (.rrc_mHL, .rrc), (.rl_mHL, .rl), (.rr_mHL, .rr), (.sla_mHL, .sla), (.sra_mHL, .sra),
   (.swap_mHL, .swap), (.srl_mHL, .srl)]

/-- `BIT b,r`. -/
def bitRegRows : List (Instr × Nat × Reg8) :=
  [(.bit_0_B, 0, .b), (.bit_0_C, 0, .c), (.bit_0_D, 0, .d), (.bit_0_E, 0, .e), (.bit_0_H, 0, .h), (.bit_0_L, 0, .l),
   (.bit_0_A, 0, .a), (.bit_1_B, 1, .b), (.bit_1_C, 1, .c), (.bit_1_D, 1, .d), (.bit_1_E, 1, .e), (.bit_1_H, 1, .h),
   (.bit_1_L, 1, .l), (.bit_1_A, 1, .a), (.bit_2_B, 2, .b), (.bit_2_C, 2, .c), (.bit_2_D, 2, .d), (.bit_2_E, 2, .e),
   (.bit_2_H, 2, .h), (.bit_2_L, 2, .l), (.bit_2_A, 2, .a), (.bit_3_B, 3, .b), (.bit_3_C, 3, .c), (.bit_3_D, 3, .d),
   (.bit_3_E, 3, .e), (.bit_3_H, 3, .h), (.bit_3_L, 3, .l), (.bit_3_A, 3, .a), (.bit_4_B, 4, .b), (.bit_4_C, 4, .c),
   (.bit_4_D, 4, .d), (.bit_4_E, 4, .e), (.bit_4_H, 4, .h), (.bit_4_L, 4, .l), (.bit_4_A, 4, .a), (.bit_5_B, 5, .b),
   (.bit_5_C, 5, .c), (.bit_5_D, 5, .d), (.bit_5_E, 5, .e), (.bit_5_H, 5, .h), (.bit_5_L, 5, .l), (.bit_5_A, 5, .a),
   (.bit_6_B, 6, .b), (.bit_6_C, 6, .c), (.bit_6_D, 6, .d), (.bit_6_E, 6, .e), (.bit_6_H, 6, .h), (.bit_6_L, 6, .l),
   (.bit_6_A, 6, .a), (.bit_7_B, 7, .b), (.bit_7_C, 7, .c), (.bit_7_D, 7, .d), (.bit_7_E, 7, .e), (.bit_7_H, 7, .h),
   (.bit_7_L, 7, .l), (.bit_7_A, 7, .a)]

/-- `BIT b,(HL)`. -/
def bitMemRows : List (Instr × Nat) :=
  [(.bit_0_mHL, 0), (.bit_1_mHL, 1), (.bit_2_mHL, 2), (.bit_3_mHL, 3), (.bit_4_mHL, 4), (.bit_5_mHL, 5),
   (.bit_6_mHL, 6), (.bit_7_mHL, 7)]

/-- `RES b,r`. -/
def resRegRows : List (Instr × Nat × Reg8) :=
  [(.res_0_B, 0, .b), (.res_0_C, 0, .c), (.res_0_D, 0, .d), (.res_0_E, 0, .e), (.res_0_H, 0, .h), (.res_0_L, 0, .l),
   (.res_0_A, 0, .a), (.res_1_B, 1, .b), (.res_1_C, 1, .c), (.res_1_D, 1, .d), (.res_1_E, 1, .e), (.res_1_H, 1, .h),
   (.res_1_L, 1, .l), (.res_1_A, 1, .a), (.res_2_B, 2, .b), (.res_2_C, 2, .c), (.res_2_D, 2, .d), (.res_2_E, 2, .e),
   (.res_2_H, 2, .h), (.res_2_L, 2, .l), (.res_2_A, 2, .a), (.res_3_B, 3, .b), (.res_3_C, 3, .c), (.res_3_D, 3, .d),
   (.res_3_E, 3, .e), (.res_3_H, 3, .h), (.res_3_L, 3, .l), (.res_3_A, 3, .a), (.res_4_B, 4, .b), (.res_4_C, 4, .c),
   (.res_4_D, 4, .d), (.res_4_E, 4, .e), (.res_4_H, 4, .h), (.res_4_L, 4, .l), (.res_4_A, 4, .a), (.res_5_B, 5, .b),
   (.res_5_C, 5, .c), (.res_5_D, 5, .d), (.res_5_E, 5, .e), (.res_5_H, 5, .h), (.res_5_L, 5, .l), (.res_5_A, 5, .a),
   (.res_6_B, 6, .b), (.res_6_C, 6, .c), (.res_6_D, 6, .d), (.res_6_E, 6, .e), (.res_6_H, 6, .h), (.res_6_L, 6, .l),
   (.res_6_A, 6, .a), (.res_7_B, 7, .b), (.res_7_C, 7, .c), (.res_7_D, 7, .d), (.res_7_E, 7, .e), (.res_7_H, 7, .h),
   (.res_7_L, 7, .l), (.res_7_A, 7, .a)]

/-- `RES b,(HL)`. -/
def resMemRows : List (Instr × Nat) :=
  [(.res_0_mHL, 0), (.res_1_mHL, 1), (.res_2_mHL, 2), (.res_3_mHL, 3), (.res_4_mHL, 4), (.res_5_mHL, 5),
   (.res_6_mHL, 6), (.res_7_mHL, 7)]

/-- `SET b,r`. -/
def setRegRows : List (Instr × Nat × Reg8) :=
  [(.set_0_B, 0, .b), (.set_0_C, 0, .c), (.set_0_D, 0, .d), (.set_0_E, 0, .e), (.set_0_H, 0, .h), (.set_0_L, 0, .l),
   (.set_0_A, 0, .a), (.set_1_B, 1, .b), (.set_1_C, 1, .c), (.set_1_D, 1, .d), (.set_1_E, 1, .e), (.set_1_H, 1, .h),
   (.set_1_L, 1, .l), (.set_1_A, 1, .a), (.set_2_B, 2, .b), (.set_2_C, 2, .c), (.set_2_D, 2, .d), (.set_2_E, 2, .e),
   (.set_2_H, 2, .h), (.set_2_L, 2, .l), (.set_2_A, 2, .a), (.set_3_B, 3, .b), (.set_3_C, 3, .c), (.set_3_D, 3, .d),
   (.set_3_E, 3, .e), (.set_3_H, 3, .h), (.set_3_L, 3, .l), (.set_3_A, 3, .a), (.set_4_B, 4, .b), (.set_4_C, 4, .c),
   (.set_4_D, 4, .d), (.set_4_E, 4, .e), (.set_4_H, 4, .h), (.set_4_L, 4, .l), (.set_4_A, 4, .a), (.set_5_B, 5, .b),
   (.set_5_C, 5, .c), (.set_5_D, 5, .d), (.set_5_E, 5, .e), (.set_5_H, 5, .h), (.set_5_L, 5, .l), (.set_5_A, 5, .a),
   (.set_6_B, 6, .b), (.set_6_C, 6, .c), (.set_6_D, 6, .d), (.set_6_E, 6, .e), (.set_6_H, 6, .h), (.set_6_L, 6, .l),
   (.set_6_A, 6, .a), (.set_7_B, 7, .b), (.set_7_C, 7, .c), (.set_7_D, 7, .d), (.set_7_E, 7, .e), (.set_7_H, 7, .h),
   (.set_7_L, 7, .l), (.set_7_A, 7, .a)]

/-- `SET b,(HL)`. -/
def setMemRows : List (Instr × Nat) :=
  [(.set_0_mHL, 0), (.set_1_mHL, 1), (.set_2_mHL, 2), (.set_3_mHL, 3), (.set_4_mHL, 4), (.set_5_mHL, 5),
   (.set_6_mHL, 6), (.set_7_mHL, 7)]

/-- `JP cc,a16` (R252). -/
def jpRows : List ((Word → Instr) × Cond) :=
  [(.jp_NZ_a16, .nz), (.jp_Z_a16, .z), (.jp_NC_a16, .nc), (.jp_C_a16, .c)]

/-- `JR cc,e8` (R255). -/
def jrRows : List ((Byte → Instr) × Cond) :=
  [(.jr_NZ_e8, .nz), (.jr_Z_e8, .z), (.jr_NC_e8, .nc), (.jr_C_e8, .c)]

/-- `CALL cc,a16` (R257). -/
def callRows : List ((Word → Instr) × Cond) :=
  [(.call_NZ_a16, .nz), (.call_Z_a16, .z), (.call_NC_a16, .nc), (.call_C_a16, .c)]

/-- `RET cc` (R259). -/
def retRows : List (Instr × Cond) :=
  [(.ret_NZ, .nz), (.ret_Z, .z), (.ret_NC, .nc), (.ret_C, .c)]

/-- `RST 8·y` (R261). -/
def rstRows : List (Instr × Nat) :=
  [(.rst_00, 0), (.rst_08, 1), (.rst_10, 2), (.rst_18, 3), (.rst_20, 4), (.rst_28, 5), (.rst_30, 6), (.rst_38, 7)]

/-- The undefined base opcodes (R91). -/
def undefinedRows : List (Instr × Byte) :=
  [(.undefined_D3, 0xD3#8), (.undefined_DB, 0xDB#8), (.undefined_DD, 0xDD#8), (.undefined_E3, 0xE3#8),
   (.undefined_E4, 0xE4#8), (.undefined_EB, 0xEB#8), (.undefined_EC, 0xEC#8), (.undefined_ED, 0xED#8),
   (.undefined_F4, 0xF4#8), (.undefined_FC, 0xFC#8), (.undefined_FD, 0xFD#8)]

/-- The set UNDEFINED of R91. -/
def undefinedBytes : List Byte := undefinedRows.map (fun r => r.2)

/-! ### Effects, in plain arithmetic -/

/-- `ADD` and `ADC` on A and an operand: the sum on unbounded numbers, narrowed to 8 bits (R140, R141, R150 to R155). -/
def addEffect (withCarry : Bool) (s : State) (v : Byte) : State :=
  let x := s.a.toNat
  let y := v.toNat
  let c := if withCarry then (s.f.getLsbD 4).toNat else 0
  { s with a := BitVec.ofNat 8 (x + y + c),
           f := flagByte (decide ((x + y + c) % 256 = 0)) false (decide (x % 16 + y % 16 + c > 15))
             (decide (x + y + c > 255)) }

/-- `SUB`, `SBC` and `CP` on A and an operand: the difference on integers, narrowed to 8 bits; `CP` keeps A (R142, R143,
R156 to R161, R171 to R173). -/
def subEffect (withCarry keepA : Bool) (s : State) (v : Byte) : State :=
  let x := s.a.toNat
  let y := v.toNat
  let c := if withCarry then (s.f.getLsbD 4).toNat else 0
  let d : Int := (x : Int) - y - c
  { s with a := if keepA then s.a else BitVec.ofInt 8 d,
           f := flagByte (decide (d % 256 = 0)) true (decide (x % 16 < y % 16 + c)) (decide (x < y + c)) }

/-- `AND`, `XOR` and `OR` on A and an operand (R144 to R146, R162 to R170). -/
def logicEffect (op : Byte → Byte → Byte) (h : Bool) (s : State) (v : Byte) : State :=
  { s with a := op s.a v, f := flagByte (decide ((op s.a v).toNat = 0)) false h false }

/-- `inc8`'s value (R147). -/
def incByte (v : Byte) : Byte := BitVec.ofNat 8 (v.toNat + 1)

/-- `dec8`'s value (R148). -/
def decByte (v : Byte) : Byte := BitVec.ofNat 8 (v.toNat + 255)

/-- F after an increment of `v`: C is kept (R174). -/
def incFlags (s : State) (v : Byte) : Byte :=
  flagByte (decide (v.toNat = 255)) false (decide (v.toNat % 16 = 15)) (s.f.getLsbD 4)

/-- F after a decrement of `v`: C is kept (R176). -/
def decFlags (s : State) (v : Byte) : Byte :=
  flagByte (decide (v.toNat = 1)) true (decide (v.toNat % 16 = 0)) (s.f.getLsbD 4)

/-- DAA, as the pseudocode of R178 says it. -/
def daaEffect (s : State) : State :=
  let a := s.a.toNat
  let n := s.f.getLsbD 6
  let h := s.f.getLsbD 5
  let c := s.f.getLsbD 4
  let c' := if n then c else c || decide (a > 0x99)
  let value : Int :=
    if n then (a : Int) - (if c then 0x60 else 0) - (if h then 0x06 else 0)
    else (a : Int) + (if c' then 0x60 else 0) + (if h || decide (a % 16 > 9) then 0x06 else 0)
  { s with a := BitVec.ofInt 8 value, f := flagByte (decide (value % 256 = 0)) n false c' }

/-- Two decimal digits in a byte. -/
def bcd (n : Nat) : Byte := BitVec.ofNat 8 (n / 10 * 16 + n % 10)

/-- SP plus a signed displacement, mod 2^16 (R191). -/
def spPlus (sp : Word) (e : Byte) : Word := BitVec.ofInt 16 ((sp.toNat : Int) + e.toInt)

/-- F after `ADD SP,e8` and `LD HL,SP+e8`: the carries of the unsigned low-byte add (R191). -/
def spPlusFlags (sp : Word) (e : Byte) : Byte :=
  flagByte false false (decide (sp.toNat % 16 + e.toNat % 16 > 15)) (decide (sp.toNat % 256 + e.toNat > 255))

/-- Value and carry of each rotate and shift (R200 to R207). -/
def rotSpec (op : RotOp) (v : Byte) (c : Bool) : Byte × Bool :=
  match op with
  | .rlc => (v.rotateLeft 1, v.getLsbD 7)
  | .rrc => (v.rotateRight 1, v.getLsbD 0)
  | .rl => (BitVec.ofNat 8 (2 * v.toNat + c.toNat), decide (v.toNat ≥ 128))
  | .rr => (BitVec.ofNat 8 (v.toNat / 2 + 128 * c.toNat), decide (v.toNat % 2 = 1))
  | .sla => (BitVec.ofNat 8 (2 * v.toNat), decide (v.toNat ≥ 128))
  | .sra => (v.sshiftRight 1, decide (v.toNat % 2 = 1))
  | .swap => (BitVec.ofNat 8 (v.toNat % 16 * 16 + v.toNat / 16), false)
  | .srl => (BitVec.ofNat 8 (v.toNat / 2), decide (v.toNat % 2 = 1))

/-- F after a CB rotate or shift (R214 to R229). -/
def rotFlags (r : Byte × Bool) : Byte := flagByte (decide (r.1.toNat = 0)) false false r.2

/-- The byte with bit b cleared. -/
def clearBit (b : Nat) (v : Byte) : Byte := if v.getLsbD b then v - BitVec.ofNat 8 (2 ^ b) else v

/-- The byte with bit b set. -/
def raiseBit (b : Nat) (v : Byte) : Byte := if v.getLsbD b then v else v + BitVec.ofNat 8 (2 ^ b)

/-- F after `BIT b` of `v`: Z is the complement of the bit, N 0, H 1, C kept (R240). -/
def bitFlags (s : State) (b : Nat) (v : Byte) : Byte := flagByte (!v.getLsbD b) false true (s.f.getLsbD 4)

/-- `cond(c)` (R250). -/
def condHolds (cc : Cond) (s : State) : Bool :=
  match cc with
  | .nz => !s.f.getLsbD 7
  | .z => s.f.getLsbD 7
  | .nc => !s.f.getLsbD 4
  | .c => s.f.getLsbD 4

/-! ### Shapes of an instruction's outcome. The address and the value may depend on the state. -/

/-- The instruction reads one byte and completes; it faults where the cartridge refuses the read. -/
def ReadsThen (i : Instr) (addr : State → Word) (m : Nat) (after : State → Byte → State) : Prop :=
  ∀ s, (∀ v, memRead s (addr s) = .ok v → exec i s = .next { after s v with cycles := m }) ∧
    (inCart (addr s) = true → cartRead s (addr s) = none → exec i s = .fault (.memoryFault (addr s) .read))

/-- The instruction writes one byte and completes; it faults where the cartridge refuses the write. -/
def WritesThen (i : Instr) (addr : State → Word) (value : State → Byte) (m : Nat) (after : State → State) : Prop :=
  ∀ s, (∀ u, memWrite s (addr s) (value s) = .ok u → exec i s = .next { after u with cycles := m }) ∧
    (inCart (addr s) = true → cartWrite s (addr s) (value s) = none →
      exec i s = .fault (.memoryFault (addr s) .write))

/-- The instruction reads the byte at HL, writes one back there and completes; it faults where the cartridge refuses. -/
def UpdatesHL (i : Instr) (m : Nat) (value : State → Byte → Byte) (flags : State → Byte → Byte) : Prop :=
  ∀ s, (∀ v u, memRead s s.hl = .ok v → memWrite s s.hl (value s v) = .ok u →
      exec i s = .next { u with f := flags s v, cycles := m }) ∧
    (inCart s.hl = true → cartRead s s.hl = none → exec i s = .fault (.memoryFault s.hl .read)) ∧
    (∀ v, memRead s s.hl = .ok v → inCart s.hl = true → cartWrite s s.hl (value s v) = none →
      exec i s = .fault (.memoryFault s.hl .write))

/-- The instruction moves SP down by 2, writes a word there, low byte first, and completes; a refused byte is its fault
(R56, R58). -/
def PushesThen (i : Instr) (word : State → Word) (m : Nat) (after : State → State) : Prop :=
  ∀ s, (∀ s1 u, memWrite { s with sp := s.sp - 2#16 } (s.sp - 2#16) (loByte (word s)) = .ok s1 →
      memWrite s1 (s.sp - 2#16 + 1#16) (hiByte (word s)) = .ok u → exec i s = .next { after u with cycles := m }) ∧
    (∀ f, memWrite { s with sp := s.sp - 2#16 } (s.sp - 2#16) (loByte (word s)) = .error f → exec i s = .fault f) ∧
    (∀ s1 f, memWrite { s with sp := s.sp - 2#16 } (s.sp - 2#16) (loByte (word s)) = .ok s1 →
      memWrite s1 (s.sp - 2#16 + 1#16) (hiByte (word s)) = .error f → exec i s = .fault f)

/-- The instruction reads the word at SP, low byte first, moves SP up by 2 and completes; a refused byte is its fault
(R57, R58). -/
def PopsThen (i : Instr) (m : Nat) (after : State → Word → State) : Prop :=
  ∀ s, (∀ lo hi, memRead s s.sp = .ok lo → memRead s (s.sp + 1#16) = .ok hi →
      exec i s = .next { after { s with sp := s.sp + 2#16 } (joinWord hi lo) with cycles := m }) ∧
    (∀ f, memRead s s.sp = .error f → exec i s = .fault f) ∧
    (∀ lo f, memRead s s.sp = .ok lo → memRead s (s.sp + 1#16) = .error f → exec i s = .fault f)

/-- An ALU operation `y` of `alu(y)` in its three forms: each operand of `reg8` at opcode 0x80 + 8·y, and the immediate at
0xC6 + 8·y (R82, R88). -/
def AluForms (y : Nat) (rows : List (Instr × Operand8)) (imm : Byte → Instr) (effect : State → Byte → State) : Prop :=
  (∀ r ∈ rows, Encodes [opByte (0x80 + 8 * y + operandIndex r.2)] r.1 ∧
    match r.2 with
    | .reg q => ∀ s, exec r.1 s = .next { effect s (s.getReg q) with cycles := 1 }
    | .memHL => ReadsThen r.1 (fun s => s.hl) 2 effect) ∧
  ∀ n, Encodes [opByte (0xC6 + 8 * y), n] (imm n) ∧ ∀ s, exec (imm n) s = .next { effect s n with cycles := 2 }

/-! ### What an instruction may write -/

/-- The addresses an instruction stores to, in order, computed from the state as its meaning computes them. -/
def storeTargets (i : Instr) (s : State) : List Word :=
  match i with
  | .ld_mBC_A => [s.bc]
  | .ld_mDE_A => [s.de]
  | .ld_ma16_A n => [n]
  | .ldh_ma8_A n => [highPage n]
  | .ld_mC_A => [highPage s.c]
  | .ld_ma16_SP n => [n, n + 1#16]
  | .ld_mHL_B | .ld_mHL_C | .ld_mHL_D | .ld_mHL_E | .ld_mHL_H | .ld_mHL_L | .ld_mHL_A | .ld_mHL_n8 _ | .ld_mHLi_A |
    .ld_mHLd_A | .inc_mHL | .dec_mHL | .rlc_mHL | .rrc_mHL | .rl_mHL | .rr_mHL | .sla_mHL | .sra_mHL | .swap_mHL |
    .srl_mHL | .res_0_mHL | .res_1_mHL | .res_2_mHL | .res_3_mHL | .res_4_mHL | .res_5_mHL | .res_6_mHL |
    .res_7_mHL | .set_0_mHL | .set_1_mHL | .set_2_mHL | .set_3_mHL | .set_4_mHL | .set_5_mHL | .set_6_mHL |
    .set_7_mHL => [s.hl]
  | .push_BC | .push_DE | .push_HL | .push_AF | .call_a16 _ | .rst_00 | .rst_08 | .rst_10 | .rst_18 | .rst_20 |
    .rst_28 | .rst_30 | .rst_38 => [s.sp - 2#16, s.sp - 2#16 + 1#16]
  | .call_NZ_a16 _ => if s.cond .nz then [s.sp - 2#16, s.sp - 2#16 + 1#16] else []
  | .call_Z_a16 _ => if s.cond .z then [s.sp - 2#16, s.sp - 2#16 + 1#16] else []
  | .call_NC_a16 _ => if s.cond .nc then [s.sp - 2#16, s.sp - 2#16 + 1#16] else []
  | .call_C_a16 _ => if s.cond .c then [s.sp - 2#16, s.sp - 2#16 + 1#16] else []
  | .prefixCB o => if o.extractLsb' 0 3 = 6#3 ∧ o.extractLsb' 6 2 ≠ 1#2 then [s.hl] else []
  | _ => []

/-- The general registers an instruction may write. -/
def destRegs (i : Instr) : List Reg8 :=
  match i with
  | .ld_BC_n16 _ | .inc_BC | .dec_BC | .pop_BC => [.b, .c]
  | .inc_B | .dec_B | .ld_B_n8 _ | .ld_B_B | .ld_B_C | .ld_B_D | .ld_B_E | .ld_B_H | .ld_B_L | .ld_B_mHL | .ld_B_A |
    .rlc_B | .rrc_B | .rl_B | .rr_B | .sla_B | .sra_B | .swap_B | .srl_B | .res_0_B | .res_1_B | .res_2_B |
    .res_3_B | .res_4_B | .res_5_B | .res_6_B | .res_7_B | .set_0_B | .set_1_B | .set_2_B | .set_3_B | .set_4_B |
    .set_5_B | .set_6_B | .set_7_B => [.b]
  | .rlca | .ld_A_mBC | .rrca | .rla | .ld_A_mDE | .rra | .daa | .cpl | .inc_A | .dec_A | .ld_A_n8 _ | .ld_A_B |
    .ld_A_C | .ld_A_D | .ld_A_E | .ld_A_H | .ld_A_L | .ld_A_mHL | .ld_A_A | .add_A_B | .add_A_C | .add_A_D |
    .add_A_E | .add_A_H | .add_A_L | .add_A_mHL | .add_A_A | .adc_A_B | .adc_A_C | .adc_A_D | .adc_A_E | .adc_A_H |
    .adc_A_L | .adc_A_mHL | .adc_A_A | .sub_B | .sub_C | .sub_D | .sub_E | .sub_H | .sub_L | .sub_mHL | .sub_A |
    .sbc_A_B | .sbc_A_C | .sbc_A_D | .sbc_A_E | .sbc_A_H | .sbc_A_L | .sbc_A_mHL | .sbc_A_A | .and_B | .and_C |
    .and_D | .and_E | .and_H | .and_L | .and_mHL | .and_A | .xor_B | .xor_C | .xor_D | .xor_E | .xor_H | .xor_L |
    .xor_mHL | .xor_A | .or_B | .or_C | .or_D | .or_E | .or_H | .or_L | .or_mHL | .or_A | .add_A_n8 _ |
    .adc_A_n8 _ | .sub_n8 _ | .sbc_A_n8 _ | .and_n8 _ | .xor_n8 _ | .ldh_A_ma8 _ | .pop_AF | .ld_A_mC | .or_n8 _ |
    .ld_A_ma16 _ | .rlc_A | .rrc_A | .rl_A | .rr_A | .sla_A | .sra_A | .swap_A | .srl_A | .res_0_A | .res_1_A |
    .res_2_A | .res_3_A | .res_4_A | .res_5_A | .res_6_A | .res_7_A | .set_0_A | .set_1_A | .set_2_A | .set_3_A |
    .set_4_A | .set_5_A | .set_6_A | .set_7_A => [.a]
  | .add_HL_BC | .add_HL_DE | .ld_HL_n16 _ | .ld_mHLi_A | .inc_HL | .add_HL_HL | .dec_HL | .ld_mHLd_A | .add_HL_SP |
    .pop_HL | .ld_HL_SP_e8 _ => [.h, .l]
  | .inc_C | .dec_C | .ld_C_n8 _ | .ld_C_B | .ld_C_C | .ld_C_D | .ld_C_E | .ld_C_H | .ld_C_L | .ld_C_mHL | .ld_C_A |
    .rlc_C | .rrc_C | .rl_C | .rr_C | .sla_C | .sra_C | .swap_C | .srl_C | .res_0_C | .res_1_C | .res_2_C |
    .res_3_C | .res_4_C | .res_5_C | .res_6_C | .res_7_C | .set_0_C | .set_1_C | .set_2_C | .set_3_C | .set_4_C |
    .set_5_C | .set_6_C | .set_7_C => [.c]
  | .ld_DE_n16 _ | .inc_DE | .dec_DE | .pop_DE => [.d, .e]
  | .inc_D | .dec_D | .ld_D_n8 _ | .ld_D_B | .ld_D_C | .ld_D_D | .ld_D_E | .ld_D_H | .ld_D_L | .ld_D_mHL | .ld_D_A |
    .rlc_D | .rrc_D | .rl_D | .rr_D | .sla_D | .sra_D | .swap_D | .srl_D | .res_0_D | .res_1_D | .res_2_D |
    .res_3_D | .res_4_D | .res_5_D | .res_6_D | .res_7_D | .set_0_D | .set_1_D | .set_2_D | .set_3_D | .set_4_D |
    .set_5_D | .set_6_D | .set_7_D => [.d]
  | .inc_E | .dec_E | .ld_E_n8 _ | .ld_E_B | .ld_E_C | .ld_E_D | .ld_E_E | .ld_E_H | .ld_E_L | .ld_E_mHL | .ld_E_A |
    .rlc_E | .rrc_E | .rl_E | .rr_E | .sla_E | .sra_E | .swap_E | .srl_E | .res_0_E | .res_1_E | .res_2_E |
    .res_3_E | .res_4_E | .res_5_E | .res_6_E | .res_7_E | .set_0_E | .set_1_E | .set_2_E | .set_3_E | .set_4_E |
    .set_5_E | .set_6_E | .set_7_E => [.e]
  | .inc_H | .dec_H | .ld_H_n8 _ | .ld_H_B | .ld_H_C | .ld_H_D | .ld_H_E | .ld_H_H | .ld_H_L | .ld_H_mHL | .ld_H_A |
    .rlc_H | .rrc_H | .rl_H | .rr_H | .sla_H | .sra_H | .swap_H | .srl_H | .res_0_H | .res_1_H | .res_2_H |
    .res_3_H | .res_4_H | .res_5_H | .res_6_H | .res_7_H | .set_0_H | .set_1_H | .set_2_H | .set_3_H | .set_4_H |
    .set_5_H | .set_6_H | .set_7_H => [.h]
  | .ld_A_mHLi | .ld_A_mHLd => [.h, .l, .a]
  | .inc_L | .dec_L | .ld_L_n8 _ | .ld_L_B | .ld_L_C | .ld_L_D | .ld_L_E | .ld_L_H | .ld_L_L | .ld_L_mHL | .ld_L_A |
    .rlc_L | .rrc_L | .rl_L | .rr_L | .sla_L | .sra_L | .swap_L | .srl_L | .res_0_L | .res_1_L | .res_2_L |
    .res_3_L | .res_4_L | .res_5_L | .res_6_L | .res_7_L | .set_0_L | .set_1_L | .set_2_L | .set_3_L | .set_4_L |
    .set_5_L | .set_6_L | .set_7_L => [.l]
  | .prefixCB o =>
    match operandOfIndex (o.extractLsb' 0 3) with
    | .reg r => if o.extractLsb' 6 2 = 1#2 then [] else [r]
    | .memHL => []
  | _ => []

/-- Whether an instruction may write F; every other one leaves it unchanged (R20). -/
def writesF (i : Instr) : Bool :=
  match i with
  | .inc_B | .dec_B | .rlca | .add_HL_BC | .inc_C | .dec_C | .rrca | .inc_D | .dec_D | .rla | .add_HL_DE | .inc_E |
    .dec_E | .rra | .inc_H | .dec_H | .daa | .add_HL_HL | .inc_L | .dec_L | .cpl | .inc_mHL | .dec_mHL | .scf |
    .add_HL_SP | .inc_A | .dec_A | .ccf | .add_A_B | .add_A_C | .add_A_D | .add_A_E | .add_A_H | .add_A_L |
    .add_A_mHL | .add_A_A | .adc_A_B | .adc_A_C | .adc_A_D | .adc_A_E | .adc_A_H | .adc_A_L | .adc_A_mHL |
    .adc_A_A | .sub_B | .sub_C | .sub_D | .sub_E | .sub_H | .sub_L | .sub_mHL | .sub_A | .sbc_A_B | .sbc_A_C |
    .sbc_A_D | .sbc_A_E | .sbc_A_H | .sbc_A_L | .sbc_A_mHL | .sbc_A_A | .and_B | .and_C | .and_D | .and_E | .and_H |
    .and_L | .and_mHL | .and_A | .xor_B | .xor_C | .xor_D | .xor_E | .xor_H | .xor_L | .xor_mHL | .xor_A | .or_B |
    .or_C | .or_D | .or_E | .or_H | .or_L | .or_mHL | .or_A | .cp_B | .cp_C | .cp_D | .cp_E | .cp_H | .cp_L |
    .cp_mHL | .cp_A | .add_A_n8 _ | .adc_A_n8 _ | .sub_n8 _ | .sbc_A_n8 _ | .and_n8 _ | .add_SP_e8 _ | .xor_n8 _ |
    .pop_AF | .or_n8 _ | .ld_HL_SP_e8 _ | .cp_n8 _ | .rlc_B | .rlc_C | .rlc_D | .rlc_E | .rlc_H | .rlc_L |
    .rlc_mHL | .rlc_A | .rrc_B | .rrc_C | .rrc_D | .rrc_E | .rrc_H | .rrc_L | .rrc_mHL | .rrc_A | .rl_B | .rl_C |
    .rl_D | .rl_E | .rl_H | .rl_L | .rl_mHL | .rl_A | .rr_B | .rr_C | .rr_D | .rr_E | .rr_H | .rr_L | .rr_mHL |
    .rr_A | .sla_B | .sla_C | .sla_D | .sla_E | .sla_H | .sla_L | .sla_mHL | .sla_A | .sra_B | .sra_C | .sra_D |
    .sra_E | .sra_H | .sra_L | .sra_mHL | .sra_A | .swap_B | .swap_C | .swap_D | .swap_E | .swap_H | .swap_L |
    .swap_mHL | .swap_A | .srl_B | .srl_C | .srl_D | .srl_E | .srl_H | .srl_L | .srl_mHL | .srl_A | .bit_0_B |
    .bit_0_C | .bit_0_D | .bit_0_E | .bit_0_H | .bit_0_L | .bit_0_mHL | .bit_0_A | .bit_1_B | .bit_1_C | .bit_1_D |
    .bit_1_E | .bit_1_H | .bit_1_L | .bit_1_mHL | .bit_1_A | .bit_2_B | .bit_2_C | .bit_2_D | .bit_2_E | .bit_2_H |
    .bit_2_L | .bit_2_mHL | .bit_2_A | .bit_3_B | .bit_3_C | .bit_3_D | .bit_3_E | .bit_3_H | .bit_3_L |
    .bit_3_mHL | .bit_3_A | .bit_4_B | .bit_4_C | .bit_4_D | .bit_4_E | .bit_4_H | .bit_4_L | .bit_4_mHL |
    .bit_4_A | .bit_5_B | .bit_5_C | .bit_5_D | .bit_5_E | .bit_5_H | .bit_5_L | .bit_5_mHL | .bit_5_A | .bit_6_B |
    .bit_6_C | .bit_6_D | .bit_6_E | .bit_6_H | .bit_6_L | .bit_6_mHL | .bit_6_A | .bit_7_B | .bit_7_C | .bit_7_D |
    .bit_7_E | .bit_7_H | .bit_7_L | .bit_7_mHL | .bit_7_A => true
  | .prefixCB o => (o.extractLsb' 6 2).toNat < 2
  | _ => false

/-- Whether an instruction may move SP (R14). -/
def movesSp (i : Instr) : Bool :=
  match i with
  | .push_BC | .push_DE | .push_HL | .push_AF | .pop_BC | .pop_DE | .pop_HL | .pop_AF | .ld_SP_n16 _ | .ld_SP_HL |
    .add_SP_e8 _ | .inc_SP | .dec_SP | .call_a16 _ | .ret | .reti | .call_NZ_a16 _ | .call_Z_a16 _ |
    .call_NC_a16 _ | .call_C_a16 _ | .ret_NZ | .ret_Z | .ret_NC | .ret_C | .rst_00 | .rst_08 | .rst_10 | .rst_18 |
    .rst_20 | .rst_28 | .rst_30 | .rst_38 => true
  | _ => false

/-- The instructions that always transfer control. -/
def isTransfer (i : Instr) : Bool :=
  match i with
  | .jr_e8 _ | .jp_a16 _ | .jp_HL | .call_a16 _ | .ret | .reti | .rst_00 | .rst_08 | .rst_10 | .rst_18 | .rst_20 |
    .rst_28 | .rst_30 | .rst_38 => true
  | _ => false

/-- The column `cycles` of spec/opcode_table.json; for a conditional transfer, the count when taken. An undefined opcode
has none. -/
def cycleCount (i : Instr) : Nat :=
  match i with
  | .ld_mBC_A | .inc_BC | .ld_B_n8 _ | .add_HL_BC | .ld_A_mBC | .dec_BC | .ld_C_n8 _ | .ld_mDE_A | .inc_DE |
    .ld_D_n8 _ | .add_HL_DE | .ld_A_mDE | .dec_DE | .ld_E_n8 _ | .ld_mHLi_A | .inc_HL | .ld_H_n8 _ | .add_HL_HL |
    .ld_A_mHLi | .dec_HL | .ld_L_n8 _ | .ld_mHLd_A | .inc_SP | .add_HL_SP | .ld_A_mHLd | .dec_SP | .ld_A_n8 _ |
    .ld_B_mHL | .ld_C_mHL | .ld_D_mHL | .ld_E_mHL | .ld_H_mHL | .ld_L_mHL | .ld_mHL_B | .ld_mHL_C | .ld_mHL_D |
    .ld_mHL_E | .ld_mHL_H | .ld_mHL_L | .ld_mHL_A | .ld_A_mHL | .add_A_mHL | .adc_A_mHL | .sub_mHL | .sbc_A_mHL |
    .and_mHL | .xor_mHL | .or_mHL | .cp_mHL | .add_A_n8 _ | .adc_A_n8 _ | .sub_n8 _ | .sbc_A_n8 _ | .ld_mC_A |
    .and_n8 _ | .xor_n8 _ | .ld_A_mC | .or_n8 _ | .ld_SP_HL | .cp_n8 _ | .rlc_B | .rlc_C | .rlc_D | .rlc_E |
    .rlc_H | .rlc_L | .rlc_A | .rrc_B | .rrc_C | .rrc_D | .rrc_E | .rrc_H | .rrc_L | .rrc_A | .rl_B | .rl_C |
    .rl_D | .rl_E | .rl_H | .rl_L | .rl_A | .rr_B | .rr_C | .rr_D | .rr_E | .rr_H | .rr_L | .rr_A | .sla_B |
    .sla_C | .sla_D | .sla_E | .sla_H | .sla_L | .sla_A | .sra_B | .sra_C | .sra_D | .sra_E | .sra_H | .sra_L |
    .sra_A | .swap_B | .swap_C | .swap_D | .swap_E | .swap_H | .swap_L | .swap_A | .srl_B | .srl_C | .srl_D |
    .srl_E | .srl_H | .srl_L | .srl_A | .bit_0_B | .bit_0_C | .bit_0_D | .bit_0_E | .bit_0_H | .bit_0_L | .bit_0_A |
    .bit_1_B | .bit_1_C | .bit_1_D | .bit_1_E | .bit_1_H | .bit_1_L | .bit_1_A | .bit_2_B | .bit_2_C | .bit_2_D |
    .bit_2_E | .bit_2_H | .bit_2_L | .bit_2_A | .bit_3_B | .bit_3_C | .bit_3_D | .bit_3_E | .bit_3_H | .bit_3_L |
    .bit_3_A | .bit_4_B | .bit_4_C | .bit_4_D | .bit_4_E | .bit_4_H | .bit_4_L | .bit_4_A | .bit_5_B | .bit_5_C |
    .bit_5_D | .bit_5_E | .bit_5_H | .bit_5_L | .bit_5_A | .bit_6_B | .bit_6_C | .bit_6_D | .bit_6_E | .bit_6_H |
    .bit_6_L | .bit_6_A | .bit_7_B | .bit_7_C | .bit_7_D | .bit_7_E | .bit_7_H | .bit_7_L | .bit_7_A | .res_0_B |
    .res_0_C | .res_0_D | .res_0_E | .res_0_H | .res_0_L | .res_0_A | .res_1_B | .res_1_C | .res_1_D | .res_1_E |
    .res_1_H | .res_1_L | .res_1_A | .res_2_B | .res_2_C | .res_2_D | .res_2_E | .res_2_H | .res_2_L | .res_2_A |
    .res_3_B | .res_3_C | .res_3_D | .res_3_E | .res_3_H | .res_3_L | .res_3_A | .res_4_B | .res_4_C | .res_4_D |
    .res_4_E | .res_4_H | .res_4_L | .res_4_A | .res_5_B | .res_5_C | .res_5_D | .res_5_E | .res_5_H | .res_5_L |
    .res_5_A | .res_6_B | .res_6_C | .res_6_D | .res_6_E | .res_6_H | .res_6_L | .res_6_A | .res_7_B | .res_7_C |
    .res_7_D | .res_7_E | .res_7_H | .res_7_L | .res_7_A | .set_0_B | .set_0_C | .set_0_D | .set_0_E | .set_0_H |
    .set_0_L | .set_0_A | .set_1_B | .set_1_C | .set_1_D | .set_1_E | .set_1_H | .set_1_L | .set_1_A | .set_2_B |
    .set_2_C | .set_2_D | .set_2_E | .set_2_H | .set_2_L | .set_2_A | .set_3_B | .set_3_C | .set_3_D | .set_3_E |
    .set_3_H | .set_3_L | .set_3_A | .set_4_B | .set_4_C | .set_4_D | .set_4_E | .set_4_H | .set_4_L | .set_4_A |
    .set_5_B | .set_5_C | .set_5_D | .set_5_E | .set_5_H | .set_5_L | .set_5_A | .set_6_B | .set_6_C | .set_6_D |
    .set_6_E | .set_6_H | .set_6_L | .set_6_A | .set_7_B | .set_7_C | .set_7_D | .set_7_E | .set_7_H | .set_7_L |
    .set_7_A => 2
  | .ld_BC_n16 _ | .ld_DE_n16 _ | .jr_e8 _ | .jr_NZ_e8 _ | .ld_HL_n16 _ | .jr_Z_e8 _ | .jr_NC_e8 _ | .ld_SP_n16 _ |
    .inc_mHL | .dec_mHL | .ld_mHL_n8 _ | .jr_C_e8 _ | .pop_BC | .pop_DE | .ldh_ma8_A _ | .pop_HL | .ldh_A_ma8 _ |
    .pop_AF | .ld_HL_SP_e8 _ | .bit_0_mHL | .bit_1_mHL | .bit_2_mHL | .bit_3_mHL | .bit_4_mHL | .bit_5_mHL |
    .bit_6_mHL | .bit_7_mHL => 3
  | .jp_NZ_a16 _ | .jp_a16 _ | .push_BC | .rst_00 | .ret | .jp_Z_a16 _ | .rst_08 | .jp_NC_a16 _ | .push_DE |
    .rst_10 | .reti | .jp_C_a16 _ | .rst_18 | .push_HL | .rst_20 | .add_SP_e8 _ | .ld_ma16_A _ | .rst_28 |
    .push_AF | .rst_30 | .ld_A_ma16 _ | .rst_38 | .rlc_mHL | .rrc_mHL | .rl_mHL | .rr_mHL | .sla_mHL | .sra_mHL |
    .swap_mHL | .srl_mHL | .res_0_mHL | .res_1_mHL | .res_2_mHL | .res_3_mHL | .res_4_mHL | .res_5_mHL |
    .res_6_mHL | .res_7_mHL | .set_0_mHL | .set_1_mHL | .set_2_mHL | .set_3_mHL | .set_4_mHL | .set_5_mHL |
    .set_6_mHL | .set_7_mHL => 4
  | .ld_ma16_SP _ | .ret_NZ | .ret_Z | .ret_NC | .ret_C => 5
  | .call_NZ_a16 _ | .call_Z_a16 _ | .call_a16 _ | .call_NC_a16 _ | .call_C_a16 _ => 6
  | .prefixCB o =>
    if o.extractLsb' 0 3 ≠ 6#3 then 2
    else if o.extractLsb' 6 2 = 1#2 then 3
    else 4
  | _ => 1

/-- The condition and the column `cycles_not_taken` of the conditional transfers. -/
def notTaken (i : Instr) : Option (Cond × Nat) :=
  match i with
  | .jr_NZ_e8 _ => some (.nz, 2)
  | .jr_Z_e8 _ => some (.z, 2)
  | .jr_NC_e8 _ => some (.nc, 2)
  | .jr_C_e8 _ => some (.c, 2)
  | .ret_NZ => some (.nz, 2)
  | .jp_NZ_a16 _ => some (.nz, 3)
  | .call_NZ_a16 _ => some (.nz, 3)
  | .ret_Z => some (.z, 2)
  | .jp_Z_a16 _ => some (.z, 3)
  | .call_Z_a16 _ => some (.z, 3)
  | .ret_NC => some (.nc, 2)
  | .jp_NC_a16 _ => some (.nc, 3)
  | .call_NC_a16 _ => some (.nc, 3)
  | .ret_C => some (.c, 2)
  | .jp_C_a16 _ => some (.c, 3)
  | .call_C_a16 _ => some (.c, 3)
  | _ => none

/-- The calls of the output port that the APU may make (R353): never `start`, `stop`, `set_frequency` or `set_amplitude`,
pulse widths for the pulse voices only, the wavetable for the wave voice only. -/
def apuCall : SinkCall → Bool
  | .start _ => false
  | .stop _ => false
  | .setFrequency _ _ => false
  | .setAmplitude _ _ => false
  | .setPulseWidth v _ => decide (v = .pulseA ∨ v = .pulseB)
  | .setWavetable v _ => decide (v = .wave)
  | .rampFrequency _ _ _ => true
  | .rampAmplitude _ _ _ => true
  | .rampPan _ _ _ => true
  | .setMasterVolume _ _ => true

/-- The addresses of the 21 sound registers (R333). -/
def soundAddrs : List Word :=
  [0xFF10#16, 0xFF11#16, 0xFF12#16, 0xFF13#16, 0xFF14#16, 0xFF16#16, 0xFF17#16, 0xFF18#16, 0xFF19#16,
   0xFF1A#16, 0xFF1B#16, 0xFF1C#16, 0xFF1D#16, 0xFF1E#16, 0xFF20#16, 0xFF21#16, 0xFF22#16, 0xFF23#16,
   0xFF24#16, 0xFF25#16, 0xFF26#16]

/-- The master enable, NR52 bit 7 (R332). -/
def masterOn (s : State) : Bool := (handleValue s 0xFF26#16).getLsbD 7

/-- The 11-bit frequency value of two registers (R335). -/
def freqValue (s : State) (lo hi : Word) : Nat := (handleValue s lo).toNat + 256 * ((handleValue s hi).toNat % 8)

/-- A voice's rising trigger edge: bit 7 of its NRx4 against what the last enabled run saw (R344). -/
def risingEdge (s : State) (v : Voice) (nr4 : Word) : Bool := (handleValue s nr4).getLsbD 7 && !v.triggered

/-- An envelope after a run of `d` T-states that gives it the pack `p`: the pack is loaded, and the time since its reset
grows by the run's seconds, from 0 if the pack changed or a trigger edge came (R331, R334, R343, R344). -/
def EnvelopeRuns {P : Type} (p : P) (edge : Bool) (d : Rat) (e e' : Envelope P) : Prop :=
  e'.params = some p ∧ (edge = true ∨ e.params ≠ some p → e'.elapsed = d / 4194304) ∧
    (edge = false → e.params = some p → e'.elapsed = e.elapsed + d / 4194304)

/-- Seconds of a length envelope: a count of 64 or 256 steps, less the register's low bits, at 256 Hz (R335 to R338). -/
def lengthSeconds (steps : Nat) (nr1 : Byte) : Rat := ((steps - nr1.toNat % steps : Nat) : Rat) / 256

/-- The length pack of a voice (R335 to R338). -/
def lengthPack (s : State) (steps : Nat) (nr1 nr4 : Word) : LenPack where
  enabled := (handleValue s nr4).getLsbD 6
  duration := lengthSeconds steps (handleValue s nr1)

/-- A length envelope has run out: it is enabled, and as many seconds have gone as it has (R341). -/
def LengthOver (s : State) (steps : Nat) (nr1 nr4 : Word) (e : Envelope LenPack) : Prop :=
  (handleValue s nr4).getLsbD 6 = true ∧ lengthSeconds steps (handleValue s nr1) ≤ e.elapsed

/-- The amplitude pack of an NRx2 (R335). -/
def amplitudePack (nr2 : Byte) : AmpPack where
  startStep := BitVec.ofNat 4 (nr2.toNat / 16)
  increasing := nr2.getLsbD 3
  n := BitVec.ofNat 3 (nr2.toNat % 8)

/-- Fifteen times the amplitude that an NRx2 gives after `x` seconds: the start step, moved by one for each whole period
of n/64 seconds, and held between 0 and 15 (R340). -/
def amplitudeSteps (nr2 : Byte) (x : Rat) : Int :=
  let start : Int := (nr2.toNat / 16 : Nat)
  let periods : Int := (64 * x / ((nr2.toNat % 8 : Nat) : Rat)).floor
  if nr2.toNat % 8 = 0 then start
  else if nr2.getLsbD 3 then max 0 (min 15 (start + periods))
  else max 0 (min 15 (start - periods))

/-- A voice's amplitude envelope over a run, and the amplitude it gives (R340, R343, R344). -/
def AmplitudeRuns (s : State) (d : Rat) (nr2 nr4 : Word) (v v' : Voice) (e e' : Envelope AmpPack) : Prop :=
  EnvelopeRuns (amplitudePack (handleValue s nr2)) (risingEdge s v nr4) d e e' ∧
    v'.amplitude * 15 = (amplitudeSteps (handleValue s nr2) e'.elapsed : Rat)

/-- The duty of an NRx1: an eighth for code 0, else the code in quarters (R349). -/
def dutySpec (nr1 : Byte) : Rat := if nr1.toNat / 64 = 0 then 1 / 8 else ((nr1.toNat / 64 : Nat) : Rat) / 4

/-- The pack of Pulse-A's sweep, from NR10, NR13 and NR14 (R335). -/
def sweepPackSpec (P : Config.Params) (s : State) : SweepPack where
  startBits := BitVec.ofNat 11 (freqValue s 0xFF13#16 0xFF14#16)
  sweepIncreasing := (handleValue s 0xFF10#16).getLsbD 3
  sweepShifts := BitVec.ofNat 3 ((handleValue s 0xFF10#16).toNat % 8)
  sweepTime := P.sweepTime (BitVec.ofNat 3 ((handleValue s 0xFF10#16).toNat / 16))

/-- The seconds of one step of Pulse-A's sweep (R354). -/
def sweepSeconds (P : Config.Params) (s : State) : Rat :=
  P.sweepTime (BitVec.ofNat 3 ((handleValue s 0xFF10#16).toNat / 16))

/-- The bits Pulse-A's sweep has reached after `x` seconds: the 11 bits, shifted by NR10's low three bits for each whole
step (R342). Seconds are not negative; a count that was would shift by none. -/
def sweptBits (P : Config.Params) (s : State) (x : Rat) : Nat :=
  let shift := (x / sweepSeconds P s).floor.toNat * ((handleValue s 0xFF10#16).toNat % 8)
  if (handleValue s 0xFF10#16).getLsbD 3 then freqValue s 0xFF13#16 0xFF14#16 * 2 ^ shift
  else freqValue s 0xFF13#16 0xFF14#16 / 2 ^ shift

/-- Pulse-A's sweep is deactivated after `x` seconds (R342, R355). -/
def SweepOver (P : Config.Params) (s : State) (x : Rat) : Prop :=
  sweepSeconds P s ≠ 0 ∧ (sweptBits P s x = 0 ∨ 2047 < sweptBits P s x)

/-- The three ramps that end a voice's calls, 10 ms each: the amplitude goes to 0 for a voice that is muted, stopped or on
no side (R348). -/
def rampCalls (id : VoiceId) (v : Voice) : List SinkCall :=
  [.rampFrequency id v.frequency (1 / 100),
   .rampAmplitude id
     (if v.muted = true ∨ v.stopped = true ∨ (v.leftOn = false ∧ v.rightOn = false) then 0 else v.amplitude) (1 / 100),
   .rampPan id v.pan (1 / 100)]

/-- The master-volume call, from NR50 (R351). -/
def volumeSpec (P : Config.Params) (s : State) : SinkCall :=
  .setMasterVolume (P.masterVolume (handleValue s 0xFF24#16)).1 (P.masterVolume (handleValue s 0xFF24#16)).2

/-- The key of the wavetable: the sum of the versions of wave RAM, and the output shift NR32[6:5] (R350). -/
def wavetableKey (s : State) : Nat × BitVec 2 :=
  (((List.range 16).map (fun k => handleVersion s (BitVec.ofNat 16 (0xFF30 + k)))).sum,
    BitVec.ofNat 2 ((handleValue s 0xFF1C#16).toNat / 32))

/-- Sample j of the wavetable: a nibble of wave RAM, the high one of each byte first, shifted down by NR32[6:5], and taken
from 0 to 15 onto −1 to +1 (R350). -/
def wavetableSample (s : State) (j : Nat) : Rat :=
  let byte := (handleValue s (BitVec.ofNat 16 (0xFF30 + j / 2))).toNat
  let nibble := if j % 2 = 0 then byte / 16 else byte % 16
  ((nibble / 2 ^ ((handleValue s 0xFF1C#16).toNat / 32 % 4) : Nat) : Rat) / 15 * 2 - 1

/-- The post-boot values of R400 as (address, value). -/
def resetSound : List (Word × Byte) :=
  [(0xFF10#16, 0x80#8), (0xFF11#16, 0xBF#8), (0xFF12#16, 0xF3#8), (0xFF13#16, 0xFF#8), (0xFF14#16, 0xBF#8),
   (0xFF16#16, 0x3F#8), (0xFF17#16, 0x00#8), (0xFF18#16, 0xFF#8), (0xFF19#16, 0xBF#8), (0xFF1A#16, 0x7F#8),
   (0xFF1B#16, 0xFF#8), (0xFF1C#16, 0x9F#8), (0xFF1D#16, 0xFF#8), (0xFF1E#16, 0xBF#8), (0xFF20#16, 0xFF#8),
   (0xFF21#16, 0x00#8), (0xFF22#16, 0x00#8), (0xFF23#16, 0xBF#8), (0xFF24#16, 0x77#8), (0xFF25#16, 0xF3#8),
   (0xFF26#16, 0xF1#8)]

end Sys2Proof.Claims

open Sys2Proof Sys2Proof.Machine Sys2Proof.Claims

/-! ### Encoding (spec/30_encoding.md) -/

/-- R80, R83, R84, R88, R89: for every well-formed instruction, at every operand value, decoding its encoding gives it
back, and leaves the bytes after it. -/
def Obligations.DecodeEncode : Prop :=
  ∀ (i : Instr) (rest : List Byte), i.wf = true → decode (encode i ++ rest) = .ok (i, rest)

/-- R80, R84, R91: any bytes decode to a well-formed instruction and the bytes after it, and its encoding is the bytes
that were read: every word has one meaning. Otherwise there is no opcode byte, or operand bytes are missing: fewer bytes
stand there than the first byte alone decides. -/
def Obligations.EncodeDecode : Prop :=
  ∀ bs : List Byte,
    match decode bs with
    | .ok (i, rest) => encode i ++ rest = bs ∧ i.wf = true
    | .error .noBytes => bs = []
    | .error (.truncated op) => ∃ rest, bs = op :: rest ∧ bs.length < (baseEntry op).length

/-- R81, R82, R83, R88, R89: one word of each family, written out from the fields of its encoding. -/
def Obligations.SpecWords : Prop :=
  Encodes [0b01111000#8] .ld_A_B ∧ Encodes [0b00111110#8, 0x7F#8] (.ld_A_n8 0x7F#8) ∧
  Encodes [0b00000001#8, 0x34#8, 0x12#8] (.ld_BC_n16 0x1234#16) ∧ Encodes [0b11110001#8] .pop_AF ∧
  Encodes [0b10001011#8] .adc_A_E ∧ Encodes [0b11111110#8, 0x42#8] (.cp_n8 0x42#8) ∧
  Encodes [0b00110101#8] .dec_mHL ∧ Encodes [0b00111001#8] .add_HL_SP ∧
  Encodes [0b11101000#8, 0xFE#8] (.add_SP_e8 0xFE#8) ∧ Encodes [0b00001111#8] .rrca ∧
  Encodes [0b11001011#8, 0b00110110#8] .swap_mHL ∧ Encodes [0b11001011#8, 0b01111100#8] .bit_7_H ∧
  Encodes [0b11001011#8, 0b10111111#8] .res_7_A ∧ Encodes [0b11001011#8, 0b11011000#8] .set_3_B ∧
  Encodes [0b11001010#8, 0x50#8, 0x01#8] (.jp_Z_a16 0x0150#16) ∧ Encodes [0b00100000#8, 0xFC#8] (.jr_NZ_e8 0xFC#8) ∧
  Encodes [0b11101111#8] .rst_28 ∧ Encodes [0b11011001#8] .reti ∧ Encodes [0b00010000#8, 0x5A#8] (.stop 0x5A#8) ∧
  Encodes [0b11010011#8] .undefined_D3

/-- R4, R83, R85, R87, R416: a tick whose step is an instruction. `e` is the state after the environment's moves. With the
CPU neither stopped nor halted once the halt wake has had its turn, and no interrupt to service, bytes that the bus reads
at PC and that decode to `i` make the step `exec i`, run with PC after the instruction and the EI latch moved into `arm`;
then IME is set if `arm` still is, and the APU runs for four T-states a machine cycle. A fault of the instruction is the
tick's. The EI latch is the spec's decision D12; that a step is a tick, and the field `arm`, are the model's own (logs 6 and
9). -/
def Obligations.StepRunsDecodedInstruction : Prop :=
  ∀ (s e : State) (bs : List Byte) (i : Instr),
    s.status = .running → e = haltWake (envPhase Config.default s) → e.stopped = false → e.halted = false →
    (e.ime = false ∨ pending e = 0#8) → readsBytes e e.pc bs → decode bs = .ok (i, []) →
    step s =
      match exec i { e with pc := e.pc + BitVec.ofNat 16 bs.length, arm := e.eiDelay, eiDelay := false } with
      | .next t =>
        .next (apuRun Config.default ((4 * t.cycles : Nat) : Rat) { t with ime := t.ime || t.arm, arm := false })
      | .fault f => .fault f
      | .refused r => .refused r

/-- R81, R82, R84, R89: the prefix row. Run on the byte `o` after 0xCB, it answers what the CB entry that `o` selects
answers; and it completes on every register operand, and on the byte at HL where the bus refuses neither the read nor the
write back. That the row has an effect of its own is the model's choice (log 10, DEDUCED): R84 and R92 say that 0xCB is no
instruction. -/
def Obligations.PrefixRunsCbEntry : Prop :=
  ∀ (o : Byte) (s : State), ∃ i, Encodes [0xCB#8, o] i ∧ exec (.prefixCB o) s = exec i s ∧
    ((o.toNat % 8 = 6 → (∃ v, memRead s s.hl = .ok v) ∧ ∀ v, ∃ u, memWrite s s.hl v = .ok u) →
      ∃ t, exec (.prefixCB o) s = .next t)

/-! ### Registers (spec/10_state.md) -/

/-- R12: a pair reads as its high register times 256 plus its low one; writing a pair and reading it back gives the word,
and for AF the word with bits 3:0 cleared; a write of one pair leaves the other pairs. A register that is written reads
back, and the others are left. -/
def Obligations.RegisterPairs : Prop :=
  (∀ s : State, s.bc.toNat = 256 * s.b.toNat + s.c.toNat ∧ s.de.toNat = 256 * s.d.toNat + s.e.toNat ∧
    s.hl.toNat = 256 * s.h.toNat + s.l.toNat ∧ s.af.toNat = 256 * s.a.toNat + s.f.toNat) ∧
  (∀ (s : State) (p q : Pair) (w : Word), (s.setPair p w).getPair q = if q = p then w else s.getPair q) ∧
  (∀ (s : State) (p q : StackPair) (w : Word), (s.setStackPair p w).getStackPair q =
    if q = p then (if p = .af then w &&& 0xFFF0#16 else w) else s.getStackPair q) ∧
  (∀ (s : State) (r q : Reg8) (v : Byte), (s.setReg r v).getReg q = if q = r then v else s.getReg q)

/-! ### 8-bit loads (spec/40_load8.md) -/

/-- R100: opcode 01 yyy zzz; `reg8(y) <- reg8(z)`, 1 M, nothing else changes. -/
def Obligations.LoadRegister : Prop :=
  ∀ r ∈ loadRegRows, Encodes [opByte (0x40 + 8 * regIndex r.2.1 + regIndex r.2.2)] r.1 ∧
    ∀ s, exec r.1 s = .next { s.setReg r.2.1 (s.getReg r.2.2) with cycles := 1 }

/-- R103, R120, R122: the loads of an immediate byte or word, and `LD SP,HL`; nothing else changes. -/
def Obligations.LoadImmediate : Prop :=
  (∀ r ∈ loadImmRows, ∀ n, Encodes [opByte (0x06 + 8 * regIndex r.2), n] (r.1 n) ∧
    ∀ s, exec (r.1 n) s = .next { s.setReg r.2 n with cycles := 2 }) ∧
  (∀ r ∈ loadPairRows, ∀ w, Encodes [opByte (0x01 + 16 * pairIndex r.2), loByte w, hiByte w] (r.1 w) ∧
    ∀ s, exec (r.1 w) s = .next { s.setPair r.2 w with cycles := 3 }) ∧
  (Encodes [0xF9#8] .ld_SP_HL ∧ ∀ s, exec .ld_SP_HL s = .next { s with sp := s.hl, cycles := 2 })

/-- R101, R105, R106, R109, R117, R118: the loads from memory, with the address each reads and the fault where the
cartridge refuses; nothing else changes. -/
def Obligations.LoadFromMemory : Prop :=
  (∀ r ∈ loadFromHLRows, Encodes [opByte (0x46 + 8 * regIndex r.2)] r.1 ∧
    ReadsThen r.1 (fun s => s.hl) 2 (fun s v => s.setReg r.2 v)) ∧
  (Encodes [0x0A#8] .ld_A_mBC ∧ ReadsThen .ld_A_mBC (fun s => s.bc) 2 (fun s v => { s with a := v })) ∧
  (Encodes [0x1A#8] .ld_A_mDE ∧ ReadsThen .ld_A_mDE (fun s => s.de) 2 (fun s v => { s with a := v })) ∧
  (∀ n, Encodes [0xFA#8, loByte n, hiByte n] (.ld_A_ma16 n) ∧
    ReadsThen (.ld_A_ma16 n) (fun _ => n) 4 (fun s v => { s with a := v })) ∧
  (Encodes [0x2A#8] .ld_A_mHLi ∧ ReadsThen .ld_A_mHLi (fun s => s.hl) 2
    (fun s v => ({ s with a := v } : State).setPair .hl (s.hl + 1#16))) ∧
  (Encodes [0x3A#8] .ld_A_mHLd ∧ ReadsThen .ld_A_mHLd (fun s => s.hl) 2
    (fun s v => ({ s with a := v } : State).setPair .hl (s.hl - 1#16)))

/-- R102, R104, R107, R108, R110, R115, R116: the stores to memory, with the address each writes and the fault where the
cartridge refuses; nothing else changes. -/
def Obligations.StoreToMemory : Prop :=
  (∀ r ∈ storeToHLRows, Encodes [opByte (0x70 + regIndex r.2)] r.1 ∧
    WritesThen r.1 (fun s => s.hl) (fun s => s.getReg r.2) 2 (fun u => u)) ∧
  (∀ n, Encodes [0x36#8, n] (.ld_mHL_n8 n) ∧ WritesThen (.ld_mHL_n8 n) (fun s => s.hl) (fun _ => n) 3 (fun u => u)) ∧
  (Encodes [0x02#8] .ld_mBC_A ∧ WritesThen .ld_mBC_A (fun s => s.bc) (fun s => s.a) 2 (fun u => u)) ∧
  (Encodes [0x12#8] .ld_mDE_A ∧ WritesThen .ld_mDE_A (fun s => s.de) (fun s => s.a) 2 (fun u => u)) ∧
  (∀ n, Encodes [0xEA#8, loByte n, hiByte n] (.ld_ma16_A n) ∧
    WritesThen (.ld_ma16_A n) (fun _ => n) (fun s => s.a) 4 (fun u => u)) ∧
  (Encodes [0x22#8] .ld_mHLi_A ∧ WritesThen .ld_mHLi_A (fun s => s.hl) (fun s => s.a) 2
    (fun u => u.setPair .hl (u.hl + 1#16))) ∧
  (Encodes [0x32#8] .ld_mHLd_A ∧ WritesThen .ld_mHLd_A (fun s => s.hl) (fun s => s.a) 2
    (fun u => u.setPair .hl (u.hl - 1#16)))

/-- R111 to R114: the short forms on 0xFF00 plus a byte. They complete in every state: the address is never in a cartridge
range. -/
def Obligations.HighPage : Prop :=
  (∀ n, Encodes [0xF0#8, n] (.ldh_A_ma8 n) ∧ ∀ s, ∃ v, memRead s (0xFF00#16 + n.setWidth 16) = .ok v ∧
    exec (.ldh_A_ma8 n) s = .next { s with a := v, cycles := 3 }) ∧
  (∀ n, Encodes [0xE0#8, n] (.ldh_ma8_A n) ∧ ∀ s, ∃ u, memWrite s (0xFF00#16 + n.setWidth 16) s.a = .ok u ∧
    exec (.ldh_ma8_A n) s = .next { u with cycles := 3 }) ∧
  (Encodes [0xF2#8] .ld_A_mC ∧ ∀ s, ∃ v, memRead s (0xFF00#16 + s.c.setWidth 16) = .ok v ∧
    exec .ld_A_mC s = .next { s with a := v, cycles := 2 }) ∧
  (Encodes [0xE2#8] .ld_mC_A ∧ ∀ s, ∃ u, memWrite s (0xFF00#16 + s.c.setWidth 16) s.a = .ok u ∧
    exec .ld_mC_A s = .next { u with cycles := 2 })

/-! ### 16-bit loads and the stack (spec/41_load16.md) -/

/-- R121, R124: `LD (a16),SP` and the pushes: two byte writes, the low byte first and lower, and the fault of the first
that is refused. That the low byte is written first is the spec's decision D15. -/
def Obligations.StoreWords : Prop :=
  (∀ n, Encodes [0x08#8, loByte n, hiByte n] (.ld_ma16_SP n) ∧ ∀ s,
    (∀ s1 u, memWrite s n (loByte s.sp) = .ok s1 → memWrite s1 (n + 1#16) (hiByte s.sp) = .ok u →
      exec (.ld_ma16_SP n) s = .next { u with cycles := 5 }) ∧
    (∀ f, memWrite s n (loByte s.sp) = .error f → exec (.ld_ma16_SP n) s = .fault f) ∧
    (∀ s1 f, memWrite s n (loByte s.sp) = .ok s1 → memWrite s1 (n + 1#16) (hiByte s.sp) = .error f →
      exec (.ld_ma16_SP n) s = .fault f)) ∧
  (∀ r ∈ pushRows, Encodes [opByte (0xC5 + 16 * stackPairIndex r.2)] r.1 ∧
    PushesThen r.1 (fun s => s.getStackPair r.2) 4 (fun u => u))

/-- R125, R126: the pops; `POP AF` stores F's bits 3:0 as 0. -/
def Obligations.PopPairs : Prop :=
  ∀ r ∈ popRows, Encodes [opByte (0xC1 + 16 * stackPairIndex r.2)] r.1 ∧
    PopsThen r.1 3 (fun u w =>
      match r.2 with
      | .bc => { u with b := hiByte w, c := loByte w }
      | .de => { u with d := hiByte w, e := loByte w }
      | .hl => { u with h := hiByte w, l := loByte w }
      | .af => { u with a := hiByte w, f := loByte w &&& 0xF0#8 })

/-! ### 8-bit arithmetic and logic (spec/42_alu8.md) -/

/-- R140, R141, R150 to R155: `ADD` and `ADC` in every form: A, F and the cycle count, and nothing else changes. -/
def Obligations.AddAndAdc : Prop :=
  AluForms 0 addRows .add_A_n8 (addEffect false) ∧ AluForms 1 adcRows .adc_A_n8 (addEffect true)

/-- R142, R143, R156 to R161, R171 to R173: `SUB`, `SBC` and `CP` in every form; `CP` writes F alone. -/
def Obligations.SubSbcAndCp : Prop :=
  AluForms 2 subRows .sub_n8 (subEffect false false) ∧ AluForms 3 sbcRows .sbc_A_n8 (subEffect true false) ∧
  AluForms 7 cpRows .cp_n8 (subEffect false true)

/-- R162 to R170: `AND`, `XOR` and `OR` in every form; H is 1 after `AND` only. The
flags of the three are the spec's decision D27. -/
def Obligations.LogicOps : Prop :=
  AluForms 4 andRows .and_n8 (logicEffect (fun x y => x &&& y) true) ∧
  AluForms 5 xorRows .xor_n8 (logicEffect (fun x y => x ^^^ y) false) ∧
  AluForms 6 orRows .or_n8 (logicEffect (fun x y => x ||| y) false)

/-- R147, R148, R174 to R177: the 8-bit increments and decrements: value, Z, N, H; C is kept. -/
def Obligations.IncDec8 : Prop :=
  (∀ r ∈ incRows, Encodes [opByte (0x04 + 8 * regIndex r.2)] r.1 ∧ ∀ s, exec r.1 s = .next
    { s.setReg r.2 (incByte (s.getReg r.2)) with f := incFlags s (s.getReg r.2), cycles := 1 }) ∧
  (∀ r ∈ decRows, Encodes [opByte (0x05 + 8 * regIndex r.2)] r.1 ∧ ∀ s, exec r.1 s = .next
    { s.setReg r.2 (decByte (s.getReg r.2)) with f := decFlags s (s.getReg r.2), cycles := 1 }) ∧
  (Encodes [0x34#8] .inc_mHL ∧ UpdatesHL .inc_mHL 3 (fun _ v => incByte v) incFlags) ∧
  (Encodes [0x35#8] .dec_mHL ∧ UpdatesHL .dec_mHL 3 (fun _ v => decByte v) decFlags)

/-- R178: `DAA` is its pseudocode, and nothing but A and F changes. The BCD rules are the spec's decision D24. -/
def Obligations.DaaPseudocode : Prop :=
  Encodes [0x27#8] .daa ∧ ∀ s, exec .daa s = .next { daaEffect s with cycles := 1 }

/-- R178, R150, R156: `DAA` after `ADD A,B` or `SUB B` of two-digit decimal numbers gives the two decimal digits of the
sum or the difference, with C the decimal carry or borrow. The BCD rules are the spec's decision D24. -/
def Obligations.DaaIsDecimal : Prop :=
  ∀ (s : State) (x y : Nat), x < 100 → y < 100 → s.a = bcd x → s.b = bcd y →
    (∃ t u, exec .add_A_B s = .next t ∧ exec .daa t = .next u ∧ u.a = bcd ((x + y) % 100) ∧
      u.flagC = decide (x + y ≥ 100) ∧ u.flagZ = decide ((x + y) % 100 = 0)) ∧
    (∃ t u, exec .sub_B s = .next t ∧ exec .daa t = .next u ∧ u.a = bcd ((x + 100 - y) % 100) ∧
      u.flagC = decide (x < y) ∧ u.flagZ = decide (x = y))

/-- R179, R180, R181: `CPL`, `SCF` and `CCF`: the flags each keeps and writes, and nothing else changes. -/
def Obligations.CplScfCcf : Prop :=
  (Encodes [0x2F#8] .cpl ∧ ∀ s, exec .cpl s = .next
    { s with a := ~~~s.a, f := flagByte (s.f.getLsbD 7) true true (s.f.getLsbD 4), cycles := 1 }) ∧
  (Encodes [0x37#8] .scf ∧ ∀ s, exec .scf s = .next
    { s with f := flagByte (s.f.getLsbD 7) false false true, cycles := 1 }) ∧
  (Encodes [0x3F#8] .ccf ∧ ∀ s, exec .ccf s = .next
    { s with f := flagByte (s.f.getLsbD 7) false false (!s.f.getLsbD 4), cycles := 1 })

/-! ### 16-bit arithmetic (spec/43_alu16.md) -/

/-- R190, R192, R193, R194: `ADD HL,rr` with H from bit 11 and Z kept; the 16-bit increments and decrements wrap and write
no flag. -/
def Obligations.Arithmetic16 : Prop :=
  (∀ r ∈ addHlRows, Encodes [opByte (0x09 + 16 * pairIndex r.2)] r.1 ∧ ∀ s, exec r.1 s = .next
    { s.setPair .hl (BitVec.ofNat 16 (s.hl.toNat + (s.getPair r.2).toNat)) with
      f := flagByte (s.f.getLsbD 7) false (decide (s.hl.toNat % 4096 + (s.getPair r.2).toNat % 4096 > 4095))
        (decide (s.hl.toNat + (s.getPair r.2).toNat > 65535)),
      cycles := 2 }) ∧
  (∀ r ∈ incPairRows, Encodes [opByte (0x03 + 16 * pairIndex r.2)] r.1 ∧ ∀ s, exec r.1 s = .next
    { s.setPair r.2 (BitVec.ofNat 16 ((s.getPair r.2).toNat + 1)) with cycles := 2 }) ∧
  (∀ r ∈ decPairRows, Encodes [opByte (0x0B + 16 * pairIndex r.2)] r.1 ∧ ∀ s, exec r.1 s = .next
    { s.setPair r.2 (BitVec.ofNat 16 ((s.getPair r.2).toNat + 65535)) with cycles := 2 })

/-- R123, R191, R195: `ADD SP,e8` and `LD HL,SP+e8`: a signed sum, with H and C the carries of the unsigned low-byte add,
Z and N 0. Which add gives H and C is the spec's decision D23. -/
def Obligations.SpPlusDisplacement : Prop :=
  (∀ e, Encodes [0xE8#8, e] (.add_SP_e8 e) ∧ ∀ s, exec (.add_SP_e8 e) s = .next
    { s with sp := spPlus s.sp e, f := spPlusFlags s.sp e, cycles := 4 }) ∧
  (∀ e, Encodes [0xF8#8, e] (.ld_HL_SP_e8 e) ∧ ∀ s, exec (.ld_HL_SP_e8 e) s = .next
    { s.setPair .hl (spPlus s.sp e) with f := spPlusFlags s.sp e, cycles := 3 })

/-! ### Rotates, shifts and bits (spec/44_rotate_shift.md, spec/45_bit.md) -/

/-- R210 to R213: `RLCA`, `RRCA`, `RLA`, `RRA`: Z is stored as 0, which is the spec's decision D22. -/
def Obligations.RotateAccumulator : Prop :=
  ∀ r ∈ rotateARows, Encodes [opByte (0x07 + 8 * rotIndex r.2)] r.1 ∧ ∀ s, exec r.1 s = .next
    { s with a := (rotSpec r.2 s.a (s.f.getLsbD 4)).1,
             f := flagByte false false false (rotSpec r.2 s.a (s.f.getLsbD 4)).2, cycles := 1 }

/-- R214, R216, R218, R220, R222, R224, R226, R228: the CB rotates, shifts and swap of a register, 2 M. -/
def Obligations.RotateRegister : Prop :=
  ∀ r ∈ rotateRegRows, Encodes [0xCB#8, opByte (8 * rotIndex r.2.1 + regIndex r.2.2)] r.1 ∧ ∀ s, exec r.1 s = .next
    { s.setReg r.2.2 (rotSpec r.2.1 (s.getReg r.2.2) (s.f.getLsbD 4)).1 with
      f := rotFlags (rotSpec r.2.1 (s.getReg r.2.2) (s.f.getLsbD 4)), cycles := 2 }

/-- R215, R217, R219, R221, R223, R225, R227, R229: the same on the byte at HL. The 4 M are the spec's decision D26. -/
def Obligations.RotateMemory : Prop :=
  ∀ r ∈ rotateMemRows, Encodes [0xCB#8, opByte (8 * rotIndex r.2 + 6)] r.1 ∧
    UpdatesHL r.1 4 (fun s v => (rotSpec r.2 v (s.f.getLsbD 4)).1) (fun s v => rotFlags (rotSpec r.2 v (s.f.getLsbD 4)))

/-- R240, R241: `BIT b` of a register and of the byte at HL: F alone is written, C kept. -/
def Obligations.BitTest : Prop :=
  (∀ r ∈ bitRegRows, Encodes [0xCB#8, opByte (0x40 + 8 * r.2.1 + regIndex r.2.2)] r.1 ∧ ∀ s, exec r.1 s = .next
    { s with f := bitFlags s r.2.1 (s.getReg r.2.2), cycles := 2 }) ∧
  (∀ r ∈ bitMemRows, Encodes [0xCB#8, opByte (0x46 + 8 * r.2)] r.1 ∧
    ReadsThen r.1 (fun s => s.hl) 3 (fun s v => { s with f := bitFlags s r.2 v }))

/-- R242, R243: `RES b` of a register and of the byte at HL; no flag changes, and the byte is always written back. -/
def Obligations.BitReset : Prop :=
  (∀ r ∈ resRegRows, Encodes [0xCB#8, opByte (0x80 + 8 * r.2.1 + regIndex r.2.2)] r.1 ∧ ∀ s, exec r.1 s = .next
    { s.setReg r.2.2 (clearBit r.2.1 (s.getReg r.2.2)) with cycles := 2 }) ∧
  (∀ r ∈ resMemRows, Encodes [0xCB#8, opByte (0x86 + 8 * r.2)] r.1 ∧
    UpdatesHL r.1 4 (fun _ v => clearBit r.2 v) (fun s _ => s.f))

/-- R244, R245: `SET b` of a register and of the byte at HL; no flag changes, and the byte is always written back. -/
def Obligations.BitSet : Prop :=
  (∀ r ∈ setRegRows, Encodes [0xCB#8, opByte (0xC0 + 8 * r.2.1 + regIndex r.2.2)] r.1 ∧ ∀ s, exec r.1 s = .next
    { s.setReg r.2.2 (raiseBit r.2.1 (s.getReg r.2.2)) with cycles := 2 }) ∧
  (∀ r ∈ setMemRows, Encodes [0xCB#8, opByte (0xC6 + 8 * r.2)] r.1 ∧
    UpdatesHL r.1 4 (fun _ v => raiseBit r.2 v) (fun s _ => s.f))

/-! ### Control transfer (spec/46_control.md). The state's PC is the address after the whole instruction. -/

/-- R250 to R255: the jumps, taken and not taken; nothing but PC changes. -/
def Obligations.Jumps : Prop :=
  (∀ a, Encodes [0xC3#8, loByte a, hiByte a] (.jp_a16 a) ∧
    ∀ s, exec (.jp_a16 a) s = .next { s with pc := a, cycles := 4 }) ∧
  (∀ r ∈ jpRows, ∀ a, Encodes [opByte (0xC2 + 8 * condIndex r.2), loByte a, hiByte a] (r.1 a) ∧
    ∀ s, exec (r.1 a) s = .next (if condHolds r.2 s then { s with pc := a, cycles := 4 } else { s with cycles := 3 })) ∧
  (Encodes [0xE9#8] .jp_HL ∧ ∀ s, exec .jp_HL s = .next { s with pc := s.hl, cycles := 1 }) ∧
  (∀ e, Encodes [0x18#8, e] (.jr_e8 e) ∧ ∀ s, exec (.jr_e8 e) s = .next
    { s with pc := BitVec.ofInt 16 ((s.pc.toNat : Int) + e.toInt), cycles := 3 }) ∧
  (∀ r ∈ jrRows, ∀ e, Encodes [opByte (0x20 + 8 * condIndex r.2), e] (r.1 e) ∧ ∀ s, exec (r.1 e) s = .next
    (if condHolds r.2 s then { s with pc := BitVec.ofInt 16 ((s.pc.toNat : Int) + e.toInt), cycles := 3 }
     else { s with cycles := 2 }))

/-- R256, R257, R261: the calls and restarts push PC and go to their target; a call not taken changes nothing. The order of
a push's two bytes is the spec's decision D15. At SP = 0x0000 a corner case of R256 says that bytes go into the ROM range;
that they go to 0xFFFE and 0xFFFF there, as the pseudocode of R56 has it, is the model's reading (log 16, DEDUCED). -/
def Obligations.Calls : Prop :=
  (∀ a, Encodes [0xCD#8, loByte a, hiByte a] (.call_a16 a) ∧
    PushesThen (.call_a16 a) (fun s => s.pc) 6 (fun u => { u with pc := a })) ∧
  (∀ r ∈ callRows, ∀ a, Encodes [opByte (0xC4 + 8 * condIndex r.2), loByte a, hiByte a] (r.1 a) ∧ ∀ s,
    (condHolds r.2 s = true → exec (r.1 a) s = exec (.call_a16 a) s) ∧
    (condHolds r.2 s = false → exec (r.1 a) s = .next { s with cycles := 3 })) ∧
  (∀ r ∈ rstRows, Encodes [opByte (0xC7 + 8 * r.2)] r.1 ∧
    PushesThen r.1 (fun s => s.pc) 4 (fun u => { u with pc := BitVec.ofNat 16 (8 * r.2) }))

/-- R258, R259, R260: the returns take PC from the stack; `RETI` also sets IME, and leaves the EI latch alone; a return
not taken changes nothing. -/
def Obligations.Returns : Prop :=
  (Encodes [0xC9#8] .ret ∧ PopsThen .ret 4 (fun u w => { u with pc := w })) ∧
  (Encodes [0xD9#8] .reti ∧ PopsThen .reti 4 (fun u w => { u with pc := w, ime := true })) ∧
  (∀ r ∈ retRows, Encodes [opByte (0xC0 + 8 * condIndex r.2)] r.1 ∧ ∀ s,
    (condHolds r.2 s = true → (∀ lo hi, memRead s s.sp = .ok lo → memRead s (s.sp + 1#16) = .ok hi →
        exec r.1 s = .next { s with sp := s.sp + 2#16, pc := joinWord hi lo, cycles := 5 }) ∧
      (∀ f, memRead s s.sp = .error f → exec r.1 s = .fault f) ∧
      (∀ lo f, memRead s s.sp = .ok lo → memRead s (s.sp + 1#16) = .error f → exec r.1 s = .fault f)) ∧
    (condHolds r.2 s = false → exec r.1 s = .next { s with cycles := 2 }))

/-! ### System instructions and undefined opcodes (spec/47_system.md) -/

/-- R270 to R274: `NOP`, `HALT`, `STOP`, `DI` and `EI`, as effects on the state; what follows them is
`Obligations.HaltAndStopWake` and `Obligations.EiDelay`. The behaviour of `STOP` and of the EI latch is
the spec's decisions D13, D55 and D12. -/
def Obligations.SystemOps : Prop :=
  (Encodes [0x00#8] .nop ∧ ∀ s, exec .nop s = .next { s with cycles := 1 }) ∧
  (Encodes [0x76#8] .halt ∧ ∀ s, exec .halt s = .next { s with halted := true, cycles := 1 }) ∧
  (∀ n, Encodes [0x10#8, n] (.stop n) ∧ ∀ s, exec (.stop n) s = .next { s with stopped := true, cycles := 1 }) ∧
  (Encodes [0xF3#8] .di ∧ ∀ s, exec .di s = .next { s with ime := false, arm := false, cycles := 1 }) ∧
  (Encodes [0xFB#8] .ei ∧ ∀ s, exec .ei s = .next { s with eiDelay := true, cycles := 1 })

/-- R91: the 11 undefined opcodes raise `UnknownOpcode(base, op)` in every state, and no entry of the CB table raises
an `UnknownOpcode`. That every other opcode is implemented is the spec's decision D2. -/
def Obligations.UndefinedOpcodes : Prop :=
  (undefinedBytes = [0xD3#8, 0xDB#8, 0xDD#8, 0xE3#8, 0xE4#8, 0xEB#8, 0xEC#8, 0xED#8, 0xF4#8, 0xFC#8, 0xFD#8]) ∧
  (∀ r ∈ undefinedRows, Encodes [r.2] r.1 ∧ ∀ s, exec r.1 s = .fault (.unknownOpcode .base r.2)) ∧
  (∀ (o : Byte) (i : Instr) (s : State) (k : OpcodeSpace) (b : Byte), Encodes [0xCB#8, o] i →
    exec i s ≠ .fault (.unknownOpcode k b))

/-! ### Frames: what an instruction leaves unchanged -/

/-- R52, R61, R62, R64: memory. When an instruction gives a next state, every address outside the bytes it stores to reads
as before, and every handle it does not store to keeps its version. `storeTargets` is empty for an instruction that stores
nothing, so all of memory reads as before. A store in a cartridge range may change what the cartridge answers, so there
an address of those ranges is left out. -/
def Obligations.FrameMemory : Prop :=
  ∀ (i : Instr) (s t : State), exec i s = .next t →
    (∀ a, (∀ w ∈ storeTargets i s, storageAddr a ≠ storageAddr w) →
      (inCart a = true → ∀ w ∈ storeTargets i s, inCart w = false) → memRead t a = memRead s a) ∧
    (∀ a, a ∉ storeTargets i s → handleVersion t a = handleVersion s a)

/-- R10, R14: registers. When an instruction gives a next state, every general register it does not name as a destination
is unchanged, and SP is unchanged unless the instruction is one that moves it. -/
def Obligations.FrameRegisters : Prop :=
  ∀ (i : Instr) (s t : State), exec i s = .next t →
    (∀ r, r ∉ destRegs i → t.getReg r = s.getReg r) ∧ (movesSp i = false → t.sp = s.sp)

/-- R15 to R18, R20: F and the control state. When an instruction gives a next state, F is unchanged unless its rule
writes F; IME is written by `DI` and `RETI` alone, the EI latch by `EI` alone, `halted` by `HALT` alone and `stopped` by
`STOP` alone; the step-local `arm` is cleared by `DI` alone. No instruction touches the APU, the run status, the
environment, the output port or the cartridge's answers. -/
def Obligations.FrameControl : Prop :=
  ∀ (i : Instr) (s t : State), exec i s = .next t →
    (writesF i = false → t.f = s.f) ∧ (i ≠ .di → i ≠ .reti → t.ime = s.ime) ∧ (i ≠ .ei → t.eiDelay = s.eiDelay) ∧
    (i ≠ .halt → t.halted = s.halted) ∧ ((∀ n, i ≠ .stop n) → t.stopped = s.stopped) ∧ (i ≠ .di → t.arm = s.arm) ∧
    s.sameOutsideCpu t

/-- R86, R87, R415: PC and the cycle count. A fetch moves PC by the length of the encoding. An instruction that does not
transfer control, or a conditional one not taken, leaves PC there. The count is the table's, by the flag test for a
conditional one. -/
def Obligations.PcAndCycles : Prop :=
  (∀ (s s1 : State) (i : Instr), fetchInstr s = .ok (i, s1) →
    s1 = { s with pc := s.pc + BitVec.ofNat 16 (encode i).length }) ∧
  (∀ (i : Instr) (s t : State), exec i s = .next t →
    match notTaken i with
    | some (cc, m) => if condHolds cc s then t.cycles = cycleCount i else t.cycles = m ∧ t.pc = s.pc
    | none => t.cycles = cycleCount i ∧ (isTransfer i = false → t.pc = s.pc))

/-! ### Interrupts, wakes and faults (spec/60_exceptions.md) -/

/-- R312 to R316: with IME set and an interrupt pending, a step of a CPU that is not stopped services the lowest pending
source, halted or not: PC is pushed, PC goes to 0x40 + 8·i, IME and the EI latch are cleared, then bit i of IF in the
value the push left there; 5 M. A refused push is the step's fault. That a halted CPU services at once, that the EI latch
is cleared, and the order of the effects are the spec's decisions D54, D11 and D57. -/
def Obligations.InterruptService : Prop :=
  ∀ (s : State) (i : Nat), s.stopped = false → s.ime = true → i < 5 → (pending s).getLsbD i = true →
    (∀ j, j < i → (pending s).getLsbD j = false) →
    (∀ u, push16 { s with halted := false } s.pc = .ok u → cpuStep s = .next
      { handleWrite { u with pc := BitVec.ofNat 16 (0x40 + 8 * i), ime := false, eiDelay := false } 0xFF0F#16
          (handleValue u 0xFF0F#16 &&& ~~~(1#8 <<< i)) with cycles := 5 }) ∧
    (∀ f, push16 { s with halted := false } s.pc = .error f → cpuStep s = .fault f)

/-- R317, R318, R412: a halted and a stopped CPU. Halted with nothing pending, the step is 1 M and changes nothing; with
something pending and IME 0 it runs the instruction at PC, with no service. Stopped, every step is 1 M with no fetch and no
service, and it clears `stopped` exactly when IF bit 4 is set, whatever IE and IME are. What wakes each is the spec's
decisions D10 and D13. -/
def Obligations.HaltAndStopWake : Prop :=
  ∀ s : State,
    (s.stopped = false → s.halted = true →
      (pending s = 0#8 → cpuStep s = .next { s with cycles := 1 }) ∧
      (pending s ≠ 0#8 → s.ime = false → cpuStep s = runInstr { s with halted := false })) ∧
    (s.stopped = true →
      cpuStep s = .next { s with stopped := !(handleValue s 0xFF0F#16).getLsbD 4, cycles := 1 })

/-- R85, R274, R410: the EI delay. When a step runs an instruction with the EI latch set, the latch is consumed, and IME is
1 after the instruction, unless it is `DI`, after which IME is 0; and with the latch clear, IME is what the instruction
left. How the latch is handled is the spec's decision D12. -/
def Obligations.EiDelay : Prop :=
  ∀ (s s1 t : State) (i : Instr), fetchInstr { s with arm := s.eiDelay, eiDelay := false } = .ok (i, s1) →
    exec i s1 = .next t →
    ∃ u, runInstr s = .next u ∧ u.arm = false ∧ u.eiDelay = decide (i = .ei) ∧
      (s.eiDelay = true → u.ime = decide (i ≠ .di)) ∧ (s.eiDelay = false → u.ime = t.ime)

/-- R19, R301: a fault discards the step: the state after the tick is the state before `Step()` with the status
`Faulted(f)`, and a faulted machine never moves again. The rollback and the end of the run are the spec's decisions D3,
D4 and D58. That `afterTick` gives this state, that the environment's moves of the tick are kept in it, and that a faulted
state answers its fault again, are the model's choice (log 11, DESIGN CHOICE). -/
def Obligations.FaultEndsRun : Prop :=
  ∀ (P : Config.Params) (s : State) (f : Fault),
    (s.status = .running → tick P s = .fault f → afterTick P s = { envPhase P s with status := .faulted f }) ∧
    (s.status = .faulted f → tick P s = .fault f ∧ ∀ k, runTicks P k s = s)

/-- R300, R302: every fault there is: of an instruction, of `Step()` (its fetch and the push of an interrupt service
included) and of a tick. It is `UnknownOpcode(base, b)` of an undefined opcode b, which for a step is the byte at PC; or
the `MemoryFault` of an address in a cartridge range. A faulted state only answers its own fault again, which is the
model's choice (log 11, DESIGN CHOICE). -/
def Obligations.FaultKinds : Prop :=
  (∀ (i : Instr) (s : State) (f : Fault), exec i s = .fault f →
    (∃ b ∈ undefinedBytes, f = .unknownOpcode .base b ∧ Encodes [b] i) ∨
      ∃ a k, f = .memoryFault a k ∧ inCart a = true) ∧
  (∀ (s : State) (f : Fault), cpuStep s = .fault f →
    (∃ b ∈ undefinedBytes, f = .unknownOpcode .base b ∧ memRead s s.pc = .ok b) ∨
      ∃ a k, f = .memoryFault a k ∧ inCart a = true) ∧
  (∀ (s : State) (f : Fault), step s = .fault f →
    s.status = .faulted f ∨ s.status = .running ∧
      ((∃ b ∈ undefinedBytes, f = .unknownOpcode .base b ∧ memRead (envPhase Config.default s) s.pc = .ok b) ∨
        ∃ a k, f = .memoryFault a k ∧ inCart a = true))

/-- R4, R53, R91, R300, R325: with a cartridge that refuses nothing, a running machine always goes on: the step answers a
next state, again running and with such a cartridge; or the byte at PC is an undefined opcode and the step is its
fault. -/
def Obligations.NeverStuck : Prop :=
  ∀ s : State, s.status = .running → s.cart.acceptsAll = true →
    (∃ t, step s = .next t ∧ t.status = .running ∧ t.cart.acceptsAll = true) ∨
      ∃ b ∈ undefinedBytes, memRead (envPhase Config.default s) s.pc = .ok b ∧
        step s = .fault (.unknownOpcode .base b)

/-- Every constructor has a meaning: no instruction and no step is refused. -/
def Obligations.NothingRefused : Prop :=
  (∀ (i : Instr) (s : State) (r : Refusal), exec i s ≠ .refused r) ∧ ∀ (s : State) (r : Refusal), step s ≠ .refused r

/-- R313, R314, R319: an interrupt and its return. In any state with canonical memory where a service is due and the two
stack bytes are plain storage other than IF, the step enters the handler, and a `RETI` there goes back: PC, SP, F and
every general register are what they were before the service, and IME is set. The state may be halted or have the EI
latch set: the service clears both, which are the spec's decisions D54 and D11. -/
def Obligations.ServiceThenReti : Prop :=
  ∀ s : State, s.memOk → s.stopped = false → s.ime = true → pending s ≠ 0#8 →
    (∀ a, a = s.sp - 2#16 ∨ a = s.sp - 1#16 → inCart a = false ∧ regionOf a ≠ .prohibited ∧ a ≠ 0xFF0F#16) →
    ∃ t u, cpuStep s = .next t ∧ t.ime = false ∧ exec .reti t = .next u ∧ u.pc = s.pc ∧ u.sp = s.sp ∧ u.f = s.f ∧
      u.ime = true ∧ u.halted = false ∧ ∀ r, u.getReg r = s.getReg r

/-! ### Memory (spec/20_memory.md) -/

/-- R51, R53: the read decode, range by range; echo RAM reads as the byte 0x2000 below. A cartridge range is the
cartridge's, and its refusal is the fault. The default cartridge reads the ROM image below 0x8000, which `State.mem` holds,
and 0xFF at 0xA000 to 0xBFFF; it is the spec's decision D20. That any other cartridge is a table of rows, of which the first
that names the internal state (or none) and the address answers, and that one with no row reads as the default, are the
model's choice (log 5, DESIGN CHOICE). -/
def Obligations.ReadDecode : Prop :=
  Cart.default.reads = [] ∧ ∀ (s : State) (a : Word),
    (a.toNat < 0x8000 ∨ 0xA000 ≤ a.toNat ∧ a.toNat < 0xC000 →
      memRead s a = match cartRead s a with
        | some v => .ok v
        | none => .error (.memoryFault a .read)) ∧
    (s.cart.reads = [] →
      (a.toNat < 0x8000 → memRead s a = .ok (Memory.get s.mem a.toNat)) ∧
      (0xA000 ≤ a.toNat ∧ a.toNat < 0xC000 → memRead s a = .ok 0xFF#8)) ∧
    (∀ r rest, s.cart.reads = r :: rest → a.toNat < 0x8000 ∨ 0xA000 ≤ a.toNat ∧ a.toNat < 0xC000 →
      cartRead s a = if (r.state = none ∨ r.state = some s.cart.state) ∧ r.addr = a then r.answer
        else cartRead { s with cart := { s.cart with reads := rest } } a) ∧
    (0x8000 ≤ a.toNat ∧ a.toNat < 0xA000 ∨ 0xC000 ≤ a.toNat ∧ a.toNat < 0xE000 ∨
        0xFE00 ≤ a.toNat ∧ a.toNat < 0xFEA0 ∨ 0xFF00 ≤ a.toNat → memRead s a = .ok (Memory.get s.mem a.toNat)) ∧
    (0xE000 ≤ a.toNat ∧ a.toNat < 0xFE00 → memRead s a = .ok (Memory.get s.mem (a.toNat - 0x2000)) ∧
      memRead s a = memRead s (a - 0x2000#16)) ∧
    (0xFEA0 ≤ a.toNat ∧ a.toNat < 0xFF00 → memRead s a = .ok 0xFF#8)

/-- R52, R53: the write decode, range by range. A cartridge range is the cartridge's, and its refusal is the fault; the
prohibited range drops the write; a handle is written as `HandleWrite` says. Outside the first two the write succeeds: the
byte reads back, at the echo address and the one 0x2000 below alike, every address that names another byte reads as before,
and no other version, no register and no cartridge state changes. A cartridge write changes the cartridge's internal state
alone, and with the default cartridge it changes nothing, which is the spec's decision D20. That any other cartridge is a
table of rows, of which the first that names the internal state, the address and the byte (any of the state and the byte, if
none) answers, and that one with no row writes as the default, are the model's choice (log 5, DESIGN CHOICE). -/
def Obligations.WriteDecode : Prop :=
  Cart.default.writes = [] ∧ ∀ (s : State) (a : Word) (v : Byte), s.memOk →
    (a.toNat < 0x8000 ∨ 0xA000 ≤ a.toNat ∧ a.toNat < 0xC000 →
      (memWrite s a v = match cartWrite s a v with
        | some t => .ok t
        | none => .error (.memoryFault a .write)) ∧
      (∀ t, cartWrite s a v = some t → t = { s with cart := { s.cart with state := t.cart.state } }) ∧
      (s.cart.writes = [] → memWrite s a v = .ok s) ∧
      ∀ r rest, s.cart.writes = r :: rest → cartWrite s a v =
        if (r.state = none ∨ r.state = some s.cart.state) ∧ r.addr = a ∧ (r.value = none ∨ r.value = some v) then
          r.answer.map (fun n => { s with cart := { s.cart with state := n } })
        else (cartWrite { s with cart := { s.cart with writes := rest } } a v).map
          (fun t => { s with cart := { s.cart with state := t.cart.state } })) ∧
    (0xFEA0 ≤ a.toNat ∧ a.toNat < 0xFF00 → memWrite s a v = .ok s) ∧
    (0xFF00 ≤ a.toNat ∧ a.toNat < 0xFF80 ∨ a.toNat = 0xFFFF → memWrite s a v = .ok (handleWrite s a v)) ∧
    (0x8000 ≤ a.toNat ∧ a.toNat < 0xA000 ∨ 0xC000 ≤ a.toNat ∧ a.toNat < 0xFEA0 ∨ 0xFF00 ≤ a.toNat →
      ∃ t, memWrite s a v = .ok t ∧ t = { s with mem := t.mem, versions := t.versions } ∧ memRead t a = .ok v ∧
        (0xE000 ≤ a.toNat ∧ a.toNat < 0xFE00 → memRead t (a - 0x2000#16) = .ok v) ∧
        (0xC000 ≤ a.toNat ∧ a.toNat < 0xDE00 → memRead t (a + 0x2000#16) = .ok v) ∧
        (∀ b, storageAddr b ≠ storageAddr a → memRead t b = memRead s b) ∧
        ∀ b, b ≠ a → handleVersion t b = handleVersion s b)

/-- R61, R63: a handle write stores the byte and adds 1 to the version; no other handle, no other byte and nothing else of
the state changes. A bit write is one handle write, of the value with that one bit replaced. -/
def Obligations.HandleWrites : Prop :=
  ∀ (s : State) (a : Word) (v : Byte), s.memOk → isHandle a.toNat = true →
    memWrite s a v = .ok (handleWrite s a v) ∧
    (∀ b, handleValue (handleWrite s a v) b = if b = a then v else handleValue s b) ∧
    (∀ b, handleVersion (handleWrite s a v) b = if b = a then handleVersion s a + 1 else handleVersion s b) ∧
    handleWrite s a v = { s with mem := (handleWrite s a v).mem, versions := (handleWrite s a v).versions } ∧
    ∀ (k : Nat) (x : Bool), k < 8 →
      (∃ w : Byte, handleBitWrite s a k x = handleWrite s a w ∧
        ∀ j, j < 8 → w.getLsbD j = if j = k then x else (handleValue s a).getLsbD j) ∧
      (∀ j, j < 8 → (handleValue (handleBitWrite s a k x) a).getLsbD j =
        if j = k then x else (handleValue s a).getLsbD j) ∧
      handleVersion (handleBitWrite s a k x) a = handleVersion s a + 1

/-- Memory is a canonical form: two memories in it that read alike everywhere are the same list, and so are two tables of
versions. The form is the model's own. -/
def Obligations.MemoryCanonical : Prop :=
  (∀ m n : Memory, Memory.wf m → Memory.wf n → (∀ a, Memory.get m a = Memory.get n a) → m = n) ∧
  (∀ m n : Versions, Versions.wf m → Versions.wf n → (∀ a, Versions.get m a = Versions.get n a) → m = n)

/-- R54 to R58: a push onto two bytes of plain storage succeeds, puts the low byte at the new SP and the high byte at the
next address, and a pop then gives the word back and restores SP. That the low byte is written first is the spec's
decision D15. -/
def Obligations.PushThenPop : Prop :=
  ∀ (s : State) (w : Word), s.memOk →
    (∀ a, a = s.sp - 2#16 ∨ a = s.sp - 1#16 → inCart a = false ∧ regionOf a ≠ .prohibited) →
    ∃ t, push16 s w = .ok t ∧ t.sp = s.sp - 2#16 ∧ memRead t (s.sp - 2#16) = .ok (loByte w) ∧
      memRead t (s.sp - 1#16) = .ok (hiByte w) ∧ pop16 t = .ok (w, { t with sp := s.sp })

/-! ### Reset and the invariants (spec/70_reset_and_hazards.md, spec/10_state.md) -/

/-- R41, R42, R400, R403: what reset leaves, for every cartridge, every content of memory and every script of the environment,
every field of the voices and of their envelopes among it; and, in the model's reset state, the sound registers and IE. The reset values are the spec's decisions D5 to D9 and D48; what a
draw reads as is not stated here (logs 1 and 2). The order of the four `start()` calls is the model's choice (log 4, DESIGN
CHOICE). -/
def Obligations.ResetState : Prop :=
  (∀ (cart : Cart) (mem : Memory) (env : List (List EnvMove)) (s : State),
    s = State.launch Config.defaultResetRegs cart mem env →
    s.a = 0x01#8 ∧ s.f = 0xB0#8 ∧ s.b = 0x00#8 ∧ s.c = 0x13#8 ∧ s.d = 0x00#8 ∧ s.e = 0xD8#8 ∧ s.h = 0x01#8 ∧
    s.l = 0x4D#8 ∧ s.sp = 0xFFFE#16 ∧ s.pc = 0x0100#16 ∧ s.ime = false ∧ s.eiDelay = false ∧ s.halted = false ∧
    s.stopped = false ∧ s.status = .running ∧ (∀ a, handleVersion s a = 0) ∧ s.cart = cart ∧
    s.apu.masterPrev = true ∧ s.apu.waveKey = none ∧ s.apu = Apu.reset ∧
    (∀ v ∈ [s.apu.pulseA.voice, s.apu.pulseB.voice, s.apu.wave.voice, s.apu.noise.voice],
      v.frequency = 0 ∧ v.amplitude = 0 ∧ v.pan = .centre ∧ v.muted = false ∧ v.stopped = false ∧ v.triggered = false ∧
      v.leftOn = false ∧ v.rightOn = false) ∧
    s.apu.pulseA.pulseWidth = 0 ∧ s.apu.pulseB.pulseWidth = 0 ∧
    (∀ e ∈ [s.apu.pulseA.amp, s.apu.pulseB.amp, s.apu.noise.amp], e.params = none ∧ e.elapsed = 0) ∧
    (∀ e ∈ [s.apu.pulseA.len, s.apu.pulseB.len, s.apu.wave.len, s.apu.noise.len], e.params = none ∧ e.elapsed = 0) ∧
    s.apu.pulseA.sweep.params = none ∧ s.apu.pulseA.sweep.elapsed = 0 ∧
    s.sink = [.start .pulseA, .start .pulseB, .start .wave, .start .noise]) ∧
  State.reset = State.launch Config.defaultResetRegs Cart.default [] [] ∧
  (∀ r ∈ resetSound, handleValue State.reset r.1 = r.2) ∧ handleValue State.reset 0xFFFF#16 = 0x00#8

/-- R11, R29, R41, R42, R400, R403: the invariant holds at every launch: for all register values, every cartridge, every
canonical content of memory and every script of the environment; and in the model's reset state. The canonical form of
memory is the model's own, and that a launch clears F's bits 3:0 is the model's choice (log 17, DESIGN CHOICE). -/
def Obligations.ResetInv : Prop :=
  (∀ (r : Config.ResetRegs) (cart : Cart) (mem : Memory) (env : List (List EnvMove)),
    Memory.wf mem → (State.launch r cart mem env).Inv) ∧
  State.reset.Inv

/-- R11, R29, R41, R42, R85: every step keeps the invariant, from any state that meets it: memory and versions canonical,
F's bits 3:0 zero, the APU's amplitudes, frequencies and times in their ranges, only the wave voice muted, and the
step-local `arm` gone. -/
def Obligations.StepKeepsInv : Prop := ∀ s t : State, s.Inv → step s = .next t → t.Inv

/-- R29, R52, R61, R62: what a step may do to memory, from any state with canonical memory: the ROM image never changes, no
version falls, and a handle's value changes only if its version does. -/
def Obligations.StepKeepsRomAndVersions : Prop :=
  ∀ s t : State, s.memOk → step s = .next t →
    (∀ n, n < 0x8000 → Memory.get t.mem n = Memory.get s.mem n) ∧
    (∀ a : Word, handleVersion s a ≤ handleVersion t a) ∧
    (∀ a : Word, isHandle a.toNat = true → handleVersion t a = handleVersion s a → handleValue t a = handleValue s a)

/-- R5: what the environment may change between ticks, from any state with canonical memory: OAM, its own registers
(ENV_REGS), the cartridge's internal state, and IF, whose bits 4:0 it can only raise. CPU registers and control state, the
APU, every other stored byte and every other version stay. How the environment is admitted is the spec's decision D18. That its moves are a script in the
state, and that a move R5 does not allow does nothing, are the model's choice (log 3, DESIGN CHOICE). -/
def Obligations.EnvironmentLimits : Prop :=
  ∀ (s t : State), s.memOk → t = envPhase Config.default s →
    t = { s with mem := t.mem, versions := t.versions, cart := { s.cart with state := t.cart.state }, env := t.env } ∧
    (∀ n, ¬ (0xFE00 ≤ n ∧ n < 0xFEA0) → ¬ (0xFF00 ≤ n ∧ n ≤ 0xFF07) → ¬ (0xFF40 ≤ n ∧ n ≤ 0xFF4B) → n ≠ 0xFF0F →
      Memory.get t.mem n = Memory.get s.mem n ∧ Versions.get t.versions n = Versions.get s.versions n) ∧
    (∀ k, (handleValue s 0xFF0F#16).getLsbD k = true → (handleValue t 0xFF0F#16).getLsbD k = true) ∧
    (∀ k, 5 ≤ k → (handleValue t 0xFF0F#16).getLsbD k = (handleValue s 0xFF0F#16).getLsbD k)

/-! ### The APU (spec/60_exceptions.md section 4) -/

/-- R62, R330, R333, R334, R346, R348, R350 to R353: what a run of the APU touches, for any parameters and time: the CPU,
the cartridge and the environment stay; of memory, only the sound registers NR10 to NR52 change, and with the master on only
NR52: every other address keeps its byte and its version; and it adds calls to the output port, none of
them `start`, `stop`, `set_frequency` or `set_amplitude`. A run with the master on makes these calls, in this order: voice
by voice, the pulse width of a pulse voice or the wavetable of Wave, and the ramps, all from what the run left in the voices;
and one master volume, of NR50, after them at the default parameters and before them where `masterVolumeFirst` is set. The
wavetable is pushed if its key is not the one last pushed, and the key is kept. The default master volume is its formula on
NR50[6:4] and NR50[2:0]. The calls are the spec's decisions D45, D48, D49 and D63; R330 and V-APU-1 put the master volume
first, and that the default follows D48 is the model's reading (log 12, DEDUCED). -/
def Obligations.ApuFrame : Prop :=
  (∀ (P : Config.Params) (d : Rat) (s t : State), t = apuRun P d s →
    s.sameCpu t ∧
    (∀ n, n < 0xFF10 ∨ 0xFF26 < n →
      Memory.get t.mem n = Memory.get s.mem n ∧ Versions.get t.versions n = Versions.get s.versions n) ∧
    (∃ calls, t.sink = s.sink ++ calls ∧ ∀ c ∈ calls, apuCall c = true) ∧
    (s.memOk → masterOn s = true →
      (∀ a : Word, a ≠ 0xFF26#16 → handleValue t a = handleValue s a ∧ handleVersion t a = handleVersion s a) ∧
      t.apu.waveKey = some (wavetableKey s) ∧
      t.sink = s.sink ++
        ((if P.masterVolumeFirst then [volumeSpec P s] else []) ++
          .setPulseWidth .pulseA t.apu.pulseA.pulseWidth :: rampCalls .pulseA t.apu.pulseA.voice ++
          .setPulseWidth .pulseB t.apu.pulseB.pulseWidth :: rampCalls .pulseB t.apu.pulseB.voice ++
          (if s.apu.waveKey = some (wavetableKey s) then []
            else [.setWavetable .wave ((List.range 32).map (wavetableSample s))]) ++
          rampCalls .wave t.apu.wave.voice ++ rampCalls .noise t.apu.noise.voice ++
          if P.masterVolumeFirst then [] else [volumeSpec P s]))) ∧
  Config.default.masterVolumeFirst = false ∧
  ∀ v : Byte, Config.default.masterVolume v =
    (((v.toNat / 16 % 8 + 1 : Nat) : Rat) / 8, ((v.toNat % 8 + 1 : Nat) : Rat) / 8)

/-- R339: the frequency of an 11-bit value is 131072 / (2048 − bits) Hz, between 64 and 131072, and converts back to the
bits exactly. Rounding to the nearest integer is the spec's decision D29; no value
here lies between two integers, so log 14 plays no part. -/
def Obligations.FrequencyRoundTrip : Prop :=
  ∀ n : Nat, n < 2048 → bitsToFrequency n * (2048 - (n : Rat)) = 131072 ∧ 64 ≤ bitsToFrequency n ∧
    bitsToFrequency n ≤ 131072 ∧ frequencyToBits (bitsToFrequency n) = (n : Int)

/-- R332, R333: a run with the master off. On the falling edge each of the 21 sound registers is written 0 once, the
voices are stopped with their trigger memory cleared, envelopes stay, and the four amplitudes ramp to 0; with the master
already off, nothing changes at all. Which registers are cleared is the spec's decision D36. -/
def Obligations.MasterDisable : Prop :=
  ∀ (P : Config.Params) (d : Rat) (s t : State), s.memOk → masterOn s = false → t = apuRun P d s →
    (s.apu.masterPrev = false → t = s) ∧
    (s.apu.masterPrev = true →
      (∀ a, handleValue t a = if a ∈ soundAddrs then 0x00#8 else handleValue s a) ∧
      (∀ a, handleVersion t a = if a ∈ soundAddrs then handleVersion s a + 1 else handleVersion s a) ∧
      t.apu = { s.apu with
        masterPrev := false,
        pulseA := { s.apu.pulseA with voice := { s.apu.pulseA.voice with stopped := true, triggered := false } },
        pulseB := { s.apu.pulseB with voice := { s.apu.pulseB.voice with stopped := true, triggered := false } },
        wave := { s.apu.wave with voice := { s.apu.wave.voice with stopped := true, triggered := false } },
        noise := { s.apu.noise with voice := { s.apu.noise.voice with stopped := true, triggered := false } } } ∧
      t.sink = s.sink ++ [.rampAmplitude .pulseA 0 (1 / 100), .rampAmplitude .pulseB 0 (1 / 100),
        .rampAmplitude .wave 0 (1 / 100), .rampAmplitude .noise 0 (1 / 100)])

/-- R334, R341 to R344, R346, R354, R355: a run with the master on, for any parameters and time: which voices play. Each
voice keeps the trigger bit it saw; each length envelope, and Pulse-A's sweep, loads its pack and counts the run's time, from
0 on a rising trigger edge or a new pack. Pulse-B, Wave and Noise stop exactly when their length has run out, Pulse-A exactly
when its length has or its sweep is deactivated. NR52's bits 3:0 read which voices play, its bits 7:4 stay, and its version
grows by 4. Pulse-A's frequency is its base with a sweep time of 0, its swept one while the sweep is active, and what it was
once the sweep is deactivated. The default sweep times are the spec's literals. These are the spec's decisions D28, D31 to
D35, D38, D41, D44 and D60. -/
def Obligations.VoiceStatus : Prop :=
  (∀ (P : Config.Params) (d : Rat) (s t : State), s.memOk → masterOn s = true → t = apuRun P d s →
    (t.apu.pulseA.voice.triggered = (handleValue s 0xFF14#16).getLsbD 7 ∧
      t.apu.pulseB.voice.triggered = (handleValue s 0xFF19#16).getLsbD 7 ∧
      t.apu.wave.voice.triggered = (handleValue s 0xFF1E#16).getLsbD 7 ∧
      t.apu.noise.voice.triggered = (handleValue s 0xFF23#16).getLsbD 7) ∧
    (EnvelopeRuns (lengthPack s 64 0xFF11#16 0xFF14#16) (risingEdge s s.apu.pulseA.voice 0xFF14#16) d
        s.apu.pulseA.len t.apu.pulseA.len ∧
      EnvelopeRuns (lengthPack s 64 0xFF16#16 0xFF19#16) (risingEdge s s.apu.pulseB.voice 0xFF19#16) d
        s.apu.pulseB.len t.apu.pulseB.len ∧
      EnvelopeRuns (lengthPack s 256 0xFF1B#16 0xFF1E#16) (risingEdge s s.apu.wave.voice 0xFF1E#16) d
        s.apu.wave.len t.apu.wave.len ∧
      EnvelopeRuns (lengthPack s 64 0xFF20#16 0xFF23#16) (risingEdge s s.apu.noise.voice 0xFF23#16) d
        s.apu.noise.len t.apu.noise.len ∧
      EnvelopeRuns (sweepPackSpec P s) (risingEdge s s.apu.pulseA.voice 0xFF14#16) d
        s.apu.pulseA.sweep t.apu.pulseA.sweep) ∧
    ((t.apu.pulseA.voice.stopped = true ↔
        LengthOver s 64 0xFF11#16 0xFF14#16 t.apu.pulseA.len ∨ SweepOver P s t.apu.pulseA.sweep.elapsed) ∧
      (t.apu.pulseB.voice.stopped = true ↔ LengthOver s 64 0xFF16#16 0xFF19#16 t.apu.pulseB.len) ∧
      (t.apu.wave.voice.stopped = true ↔ LengthOver s 256 0xFF1B#16 0xFF1E#16 t.apu.wave.len) ∧
      (t.apu.noise.voice.stopped = true ↔ LengthOver s 64 0xFF20#16 0xFF23#16 t.apu.noise.len)) ∧
    (∀ k, k < 8 → (handleValue t 0xFF26#16).getLsbD k =
      match k with
      | 0 => !t.apu.pulseA.voice.stopped
      | 1 => !t.apu.pulseB.voice.stopped
      | 2 => !t.apu.wave.voice.stopped
      | 3 => !t.apu.noise.voice.stopped
      | _ => (handleValue s 0xFF26#16).getLsbD k) ∧
    handleVersion t 0xFF26#16 = handleVersion s 0xFF26#16 + 4 ∧
    (sweepSeconds P s = 0 →
      t.apu.pulseA.voice.frequency = bitsToFrequency (freqValue s 0xFF13#16 0xFF14#16)) ∧
    (sweepSeconds P s ≠ 0 → ¬ SweepOver P s t.apu.pulseA.sweep.elapsed →
      t.apu.pulseA.voice.frequency = bitsToFrequency (sweptBits P s t.apu.pulseA.sweep.elapsed)) ∧
    (SweepOver P s t.apu.pulseA.sweep.elapsed →
      t.apu.pulseA.voice.frequency = s.apu.pulseA.voice.frequency)) ∧
  ([0, 1, 2, 3, 4, 5, 6, 7] : List (BitVec 3)).map (fun c => Config.default.sweepTime c * 10000) =
    [0, 78, 156, 234, 313, 391, 469, 547]

/-- R335 to R338, R340, R343 to R345, R347, R349: a run with the master on, for any parameters and time: the fields of the
voices. The frequencies of Pulse-B, Wave and Noise from their registers (Pulse-A's is in `Obligations.VoiceStatus`); the
amplitude envelopes of the pulse voices and Noise, each restarted by a rising trigger edge or a new pack, and the amplitude
each gives; Wave at amplitude 1, and muted unless NR30 bit 7 is set, no other voice's mute being touched; the duty of the
pulse voices; and the routing of NR51, a voice on no side keeping its pan. The default frequency parameters are 65536 and
the noise formula. These are the spec's decisions D30, D33, D34, D41 to D44, D46 and D47. -/
def Obligations.VoiceFields : Prop :=
  (∀ (P : Config.Params) (d : Rat) (s t : State), s.memOk → masterOn s = true → t = apuRun P d s →
    t.apu.pulseB.voice.frequency = bitsToFrequency (freqValue s 0xFF18#16 0xFF19#16) ∧
    t.apu.wave.voice.frequency * (2048 - (freqValue s 0xFF1D#16 0xFF1E#16 : Rat)) = P.waveFreqNum ∧
    t.apu.noise.voice.frequency = P.noiseFreq (handleValue s 0xFF22#16) ∧
    AmplitudeRuns s d 0xFF12#16 0xFF14#16 s.apu.pulseA.voice t.apu.pulseA.voice s.apu.pulseA.amp t.apu.pulseA.amp ∧
    AmplitudeRuns s d 0xFF17#16 0xFF19#16 s.apu.pulseB.voice t.apu.pulseB.voice s.apu.pulseB.amp t.apu.pulseB.amp ∧
    AmplitudeRuns s d 0xFF21#16 0xFF23#16 s.apu.noise.voice t.apu.noise.voice s.apu.noise.amp t.apu.noise.amp ∧
    t.apu.wave.voice.amplitude = 1 ∧ t.apu.wave.voice.muted = !(handleValue s 0xFF1A#16).getLsbD 7 ∧
    (t.apu.pulseA.voice.muted = s.apu.pulseA.voice.muted ∧ t.apu.pulseB.voice.muted = s.apu.pulseB.voice.muted ∧
      t.apu.noise.voice.muted = s.apu.noise.voice.muted) ∧
    t.apu.pulseA.pulseWidth = dutySpec (handleValue s 0xFF11#16) ∧
    t.apu.pulseB.pulseWidth = dutySpec (handleValue s 0xFF16#16) ∧
    (let nr51 := handleValue s 0xFF25#16
     ∀ r ∈ [(t.apu.pulseA.voice, s.apu.pulseA.voice, 0), (t.apu.pulseB.voice, s.apu.pulseB.voice, 1),
         (t.apu.wave.voice, s.apu.wave.voice, 2), (t.apu.noise.voice, s.apu.noise.voice, 3)],
       r.1.rightOn = nr51.getLsbD r.2.2 ∧ r.1.leftOn = nr51.getLsbD (4 + r.2.2) ∧
       r.1.pan = match nr51.getLsbD (4 + r.2.2), nr51.getLsbD r.2.2 with
         | true, false => .left
         | false, true => .right
         | true, true => .centre
         | false, false => r.2.1.pan)) ∧
  Config.default.waveFreqNum = 65536 ∧
  ∀ v : Byte, Config.default.noiseFreq v *
    ((if v.toNat % 8 = 0 then 1 / 2 else ((v.toNat % 8 : Nat) : Rat)) * 2 ^ (v.toNat / 16 + 1)) = 524288
end

