-- ==== Sys2Proof/Laws/Memory.lean ====
section
/-! SUPPORT. The laws of the sparse lists behind memory and the version counters: read after write, other places
untouched, canonical form kept, and equal contents are equal lists. -/

namespace Sys2Proof.Machine

section
variable {α : Type} [DecidableEq α] {d : Nat → α} {dom : Nat → Bool}

omit [DecidableEq α] in
theorem Cells.get_of_lt {m : List (Nat × α)} {n : Nat} (h : ∀ c ∈ m, n < c.1) : Cells.get d m n = d n := by
  induction m with
  | nil => rfl
  | cons c rest ih =>
    obtain ⟨k, v⟩ := c
    have hk : n < k := h (k, v) (by simp)
    have : k ≠ n := by omega
    simp only [Cells.get, this, if_false]
    exact ih fun c hc => h c (by simp [hc])

theorem Cells.get_put_of_ne {m : List (Nat × α)} {n k : Nat} {v : α} (h : n ≠ k) :
    Cells.get d (Cells.put d m k v) n = Cells.get d m n := by
  induction m with
  | nil =>
    by_cases hv : v = d k
    · simp [Cells.put, hv]
    · simp [Cells.put, hv, Cells.get, h.symm]
  | cons c rest ih =>
    obtain ⟨j, w⟩ := c
    simp only [Cells.put]
    split_ifs with h1 h2 h3 h4
    · rfl
    · simp [Cells.get, h.symm]
    · subst h3; simp [Cells.get, h.symm]
    · subst h3; simp [Cells.get, h.symm]
    · simp only [Cells.get, ih]

theorem Cells.get_put_self {m : List (Nat × α)} {n : Nat} {v : α} (h : m.Pairwise (fun x y => x.1 < y.1)) :
    Cells.get d (Cells.put d m n v) n = v := by
  induction m with
  | nil =>
    by_cases hv : v = d n
    · simp [Cells.put, hv, Cells.get]
    · simp [Cells.put, hv, Cells.get]
  | cons c rest ih =>
    obtain ⟨j, w⟩ := c
    have hr := List.pairwise_cons.1 h
    simp only [Cells.put]
    split_ifs with h1 h2 h3 h4
    · subst h2
      have hj : j ≠ n := by omega
      simp only [Cells.get, hj, if_false]
      exact Cells.get_of_lt fun c hc => lt_trans h1 (hr.1 c hc)
    · simp [Cells.get]
    · subst h3; subst h4
      exact Cells.get_of_lt fun c hc => hr.1 c hc
    · simp [Cells.get]
    · have hj : j ≠ n := fun hh => h3 hh.symm
      simp only [Cells.get, hj, if_false]
      exact ih hr.2

theorem Cells.mem_put {m : List (Nat × α)} {n : Nat} {v : α} {c : Nat × α} (h : c ∈ Cells.put d m n v) :
    c ∈ m ∨ (c = (n, v) ∧ v ≠ d n) := by
  induction m with
  | nil =>
    by_cases hv : v = d n
    · simp [Cells.put, hv] at h
    · simp [Cells.put, hv] at h; exact .inr ⟨h, hv⟩
  | cons x rest ih =>
    obtain ⟨j, w⟩ := x
    simp only [Cells.put] at h
    split_ifs at h with h1 h2 h3 h4
    · exact .inl h
    · rcases List.mem_cons.1 h with h | h
      · exact .inr ⟨h, h2⟩
      · exact .inl h
    · exact .inl (List.mem_cons_of_mem _ h)
    · rcases List.mem_cons.1 h with h | h
      · exact .inr ⟨h, h4⟩
      · exact .inl (List.mem_cons_of_mem _ h)
    · rcases List.mem_cons.1 h with h | h
      · exact .inl (h ▸ List.mem_cons_self)
      · exact (ih h).imp (List.mem_cons_of_mem _) id

theorem Cells.pairwise_put {m : List (Nat × α)} {n : Nat} {v : α} (h : m.Pairwise (fun x y => x.1 < y.1)) :
    (Cells.put d m n v).Pairwise (fun x y => x.1 < y.1) := by
  induction m with
  | nil =>
    by_cases hv : v = d n <;> simp [Cells.put, hv]
  | cons x rest ih =>
    obtain ⟨j, w⟩ := x
    have hr := List.pairwise_cons.1 h
    simp only [Cells.put]
    split_ifs with h1 h2 h3 h4
    · exact h
    · refine List.pairwise_cons.2 ⟨fun c hc => ?_, h⟩
      rcases List.mem_cons.1 hc with hc | hc
      · subst hc; exact h1
      · exact lt_trans h1 (hr.1 c hc)
    · exact hr.2
    · subst h3; exact List.pairwise_cons.2 ⟨hr.1, hr.2⟩
    · refine List.pairwise_cons.2 ⟨fun c hc => ?_, ih hr.2⟩
      rcases Cells.mem_put hc with hc | ⟨hc, -⟩
      · exact hr.1 c hc
      · subst hc; show j < n; omega

/-- A write keeps the canonical form. -/
theorem Cells.put_wf {m : List (Nat × α)} {n : Nat} {v : α} (h : Cells.Wf d dom m) (hn : dom n = true) :
    Cells.Wf d dom (Cells.put d m n v) :=
  ⟨Cells.pairwise_put h.1, fun c hc => by
    rcases Cells.mem_put hc with hc | ⟨hc, hv⟩
    · exact h.2 c hc
    · subst hc; exact ⟨hn, hv⟩⟩

end

/-! ### Memory and versions -/

@[simp] theorem Memory.get_nil (n : Nat) : Memory.get [] n = Memory.unlisted n := rfl

@[simp] theorem Versions.get_nil (n : Nat) : Versions.get [] n = 0 := rfl

theorem Memory.get_put_self {m : Memory} {n : Nat} {v : Byte} (h : Memory.wf m) :
    Memory.get (Memory.put m n v) n = v := Cells.get_put_self h.1

theorem Memory.get_put_of_ne {m : Memory} {n k : Nat} {v : Byte} (h : n ≠ k) :
    Memory.get (Memory.put m k v) n = Memory.get m n := Cells.get_put_of_ne h

theorem Memory.put_wf {m : Memory} {n : Nat} {v : Byte} (h : Memory.wf m) (hn : hasStorage n = true) :
    Memory.wf (Memory.put m n v) := Cells.put_wf h hn

theorem Memory.nil_wf : Memory.wf [] := ⟨List.Pairwise.nil, by simp⟩

theorem Versions.get_put_self {m : Versions} {n v : Nat} (h : Versions.wf m) :
    Versions.get (Versions.put m n v) n = v := Cells.get_put_self h.1

theorem Versions.get_put_of_ne {m : Versions} {n k v : Nat} (h : n ≠ k) :
    Versions.get (Versions.put m k v) n = Versions.get m n := Cells.get_put_of_ne h

theorem Versions.put_wf {m : Versions} {n v : Nat} (h : Versions.wf m) (hn : isHandle n = true) :
    Versions.wf (Versions.put m n v) := Cells.put_wf h hn

theorem Versions.nil_wf : Versions.wf [] := ⟨List.Pairwise.nil, by simp⟩

/-- A handle has storage (R29, R51). -/
theorem hasStorage_of_isHandle {n : Nat} (h : isHandle n = true) : hasStorage n = true := by
  simp only [isHandle, hasStorage, Bool.or_eq_true, decide_eq_true_eq] at *
  omega

end Sys2Proof.Machine
end

