-- ==== Sys2Proof/Laws/State.lean ====
section
/-! SUPPORT. One lemma per field per named update of the state: what the update leaves alone, and what it writes. -/

namespace Sys2Proof.Machine

/-! ### `handleWrite`, `handleBitWrite` -/

@[simp] theorem handleWrite_a (s : State) (x : Word) (v : Byte) : (handleWrite s x v).a = s.a := rfl

@[simp] theorem handleWrite_f (s : State) (x : Word) (v : Byte) : (handleWrite s x v).f = s.f := rfl

@[simp] theorem handleWrite_b (s : State) (x : Word) (v : Byte) : (handleWrite s x v).b = s.b := rfl

@[simp] theorem handleWrite_c (s : State) (x : Word) (v : Byte) : (handleWrite s x v).c = s.c := rfl

@[simp] theorem handleWrite_d (s : State) (x : Word) (v : Byte) : (handleWrite s x v).d = s.d := rfl

@[simp] theorem handleWrite_e (s : State) (x : Word) (v : Byte) : (handleWrite s x v).e = s.e := rfl

@[simp] theorem handleWrite_h (s : State) (x : Word) (v : Byte) : (handleWrite s x v).h = s.h := rfl

@[simp] theorem handleWrite_l (s : State) (x : Word) (v : Byte) : (handleWrite s x v).l = s.l := rfl

@[simp] theorem handleWrite_sp (s : State) (x : Word) (v : Byte) : (handleWrite s x v).sp = s.sp := rfl

@[simp] theorem handleWrite_pc (s : State) (x : Word) (v : Byte) : (handleWrite s x v).pc = s.pc := rfl

@[simp] theorem handleWrite_ime (s : State) (x : Word) (v : Byte) : (handleWrite s x v).ime = s.ime := rfl

@[simp] theorem handleWrite_eiDelay (s : State) (x : Word) (v : Byte) : (handleWrite s x v).eiDelay = s.eiDelay := rfl

@[simp] theorem handleWrite_halted (s : State) (x : Word) (v : Byte) : (handleWrite s x v).halted = s.halted := rfl

@[simp] theorem handleWrite_stopped (s : State) (x : Word) (v : Byte) : (handleWrite s x v).stopped = s.stopped := rfl

@[simp] theorem handleWrite_status (s : State) (x : Word) (v : Byte) : (handleWrite s x v).status = s.status := rfl

@[simp] theorem handleWrite_cart (s : State) (x : Word) (v : Byte) : (handleWrite s x v).cart = s.cart := rfl

@[simp] theorem handleWrite_apu (s : State) (x : Word) (v : Byte) : (handleWrite s x v).apu = s.apu := rfl

@[simp] theorem handleWrite_arm (s : State) (x : Word) (v : Byte) : (handleWrite s x v).arm = s.arm := rfl

@[simp] theorem handleWrite_cycles (s : State) (x : Word) (v : Byte) : (handleWrite s x v).cycles = s.cycles := rfl

@[simp] theorem handleWrite_env (s : State) (x : Word) (v : Byte) : (handleWrite s x v).env = s.env := rfl

@[simp] theorem handleWrite_sink (s : State) (x : Word) (v : Byte) : (handleWrite s x v).sink = s.sink := rfl

@[simp] theorem handleWrite_mem (s : State) (x : Word) (v : Byte) :
    (handleWrite s x v).mem = Memory.put s.mem x.toNat v := rfl

@[simp] theorem handleWrite_versions (s : State) (x : Word) (v : Byte) :
    (handleWrite s x v).versions = Versions.put s.versions x.toNat (handleVersion s x + 1) := rfl

@[simp] theorem handleBitWrite_a (s : State) (x : Word) (i : Nat) (v : Bool) : (handleBitWrite s x i v).a = s.a := rfl

@[simp] theorem handleBitWrite_f (s : State) (x : Word) (i : Nat) (v : Bool) : (handleBitWrite s x i v).f = s.f := rfl

@[simp] theorem handleBitWrite_b (s : State) (x : Word) (i : Nat) (v : Bool) : (handleBitWrite s x i v).b = s.b := rfl

@[simp] theorem handleBitWrite_c (s : State) (x : Word) (i : Nat) (v : Bool) : (handleBitWrite s x i v).c = s.c := rfl

@[simp] theorem handleBitWrite_d (s : State) (x : Word) (i : Nat) (v : Bool) : (handleBitWrite s x i v).d = s.d := rfl

@[simp] theorem handleBitWrite_e (s : State) (x : Word) (i : Nat) (v : Bool) : (handleBitWrite s x i v).e = s.e := rfl

@[simp] theorem handleBitWrite_h (s : State) (x : Word) (i : Nat) (v : Bool) : (handleBitWrite s x i v).h = s.h := rfl

@[simp] theorem handleBitWrite_l (s : State) (x : Word) (i : Nat) (v : Bool) : (handleBitWrite s x i v).l = s.l := rfl

@[simp] theorem handleBitWrite_sp (s : State) (x : Word) (i : Nat) (v : Bool) : (handleBitWrite s x i v).sp = s.sp := rfl

@[simp] theorem handleBitWrite_pc (s : State) (x : Word) (i : Nat) (v : Bool) : (handleBitWrite s x i v).pc = s.pc := rfl

@[simp] theorem handleBitWrite_ime (s : State) (x : Word) (i : Nat) (v : Bool) : (handleBitWrite s x i v).ime = s.ime := rfl

@[simp] theorem handleBitWrite_eiDelay (s : State) (x : Word) (i : Nat) (v : Bool) : (handleBitWrite s x i v).eiDelay = s.eiDelay := rfl

@[simp] theorem handleBitWrite_halted (s : State) (x : Word) (i : Nat) (v : Bool) : (handleBitWrite s x i v).halted = s.halted := rfl

@[simp] theorem handleBitWrite_stopped (s : State) (x : Word) (i : Nat) (v : Bool) : (handleBitWrite s x i v).stopped = s.stopped := rfl

@[simp] theorem handleBitWrite_status (s : State) (x : Word) (i : Nat) (v : Bool) : (handleBitWrite s x i v).status = s.status := rfl

@[simp] theorem handleBitWrite_cart (s : State) (x : Word) (i : Nat) (v : Bool) : (handleBitWrite s x i v).cart = s.cart := rfl

@[simp] theorem handleBitWrite_apu (s : State) (x : Word) (i : Nat) (v : Bool) : (handleBitWrite s x i v).apu = s.apu := rfl

@[simp] theorem handleBitWrite_arm (s : State) (x : Word) (i : Nat) (v : Bool) : (handleBitWrite s x i v).arm = s.arm := rfl

@[simp] theorem handleBitWrite_cycles (s : State) (x : Word) (i : Nat) (v : Bool) : (handleBitWrite s x i v).cycles = s.cycles := rfl

@[simp] theorem handleBitWrite_env (s : State) (x : Word) (i : Nat) (v : Bool) : (handleBitWrite s x i v).env = s.env := rfl

@[simp] theorem handleBitWrite_sink (s : State) (x : Word) (i : Nat) (v : Bool) : (handleBitWrite s x i v).sink = s.sink := rfl

/-! ### `setFlags`, `setF` -/

@[simp] theorem setFlags_a (s : State) (z n h c : Bool) : (s.setFlags z n h c).a = s.a := rfl

@[simp] theorem setFlags_b (s : State) (z n h c : Bool) : (s.setFlags z n h c).b = s.b := rfl

@[simp] theorem setFlags_c (s : State) (z n h c : Bool) : (s.setFlags z n h c).c = s.c := rfl

@[simp] theorem setFlags_d (s : State) (z n h c : Bool) : (s.setFlags z n h c).d = s.d := rfl

@[simp] theorem setFlags_e (s : State) (z n h c : Bool) : (s.setFlags z n h c).e = s.e := rfl

@[simp] theorem setFlags_h (s : State) (z n h c : Bool) : (s.setFlags z n h c).h = s.h := rfl

@[simp] theorem setFlags_l (s : State) (z n h c : Bool) : (s.setFlags z n h c).l = s.l := rfl

@[simp] theorem setFlags_sp (s : State) (z n h c : Bool) : (s.setFlags z n h c).sp = s.sp := rfl

@[simp] theorem setFlags_pc (s : State) (z n h c : Bool) : (s.setFlags z n h c).pc = s.pc := rfl

@[simp] theorem setFlags_ime (s : State) (z n h c : Bool) : (s.setFlags z n h c).ime = s.ime := rfl

@[simp] theorem setFlags_eiDelay (s : State) (z n h c : Bool) : (s.setFlags z n h c).eiDelay = s.eiDelay := rfl

@[simp] theorem setFlags_halted (s : State) (z n h c : Bool) : (s.setFlags z n h c).halted = s.halted := rfl

@[simp] theorem setFlags_stopped (s : State) (z n h c : Bool) : (s.setFlags z n h c).stopped = s.stopped := rfl

@[simp] theorem setFlags_status (s : State) (z n h c : Bool) : (s.setFlags z n h c).status = s.status := rfl

@[simp] theorem setFlags_mem (s : State) (z n h c : Bool) : (s.setFlags z n h c).mem = s.mem := rfl

@[simp] theorem setFlags_versions (s : State) (z n h c : Bool) : (s.setFlags z n h c).versions = s.versions := rfl

@[simp] theorem setFlags_cart (s : State) (z n h c : Bool) : (s.setFlags z n h c).cart = s.cart := rfl

@[simp] theorem setFlags_apu (s : State) (z n h c : Bool) : (s.setFlags z n h c).apu = s.apu := rfl

@[simp] theorem setFlags_arm (s : State) (z n h c : Bool) : (s.setFlags z n h c).arm = s.arm := rfl

@[simp] theorem setFlags_cycles (s : State) (z n h c : Bool) : (s.setFlags z n h c).cycles = s.cycles := rfl

@[simp] theorem setFlags_env (s : State) (z n h c : Bool) : (s.setFlags z n h c).env = s.env := rfl

@[simp] theorem setFlags_sink (s : State) (z n h c : Bool) : (s.setFlags z n h c).sink = s.sink := rfl

@[simp] theorem setFlags_f (s : State) (z n h c : Bool) : (s.setFlags z n h c).f = flagByte z n h c := rfl

@[simp] theorem setF_a (s : State) (v : Byte) : (s.setF v).a = s.a := rfl

@[simp] theorem setF_b (s : State) (v : Byte) : (s.setF v).b = s.b := rfl

@[simp] theorem setF_c (s : State) (v : Byte) : (s.setF v).c = s.c := rfl

@[simp] theorem setF_d (s : State) (v : Byte) : (s.setF v).d = s.d := rfl

@[simp] theorem setF_e (s : State) (v : Byte) : (s.setF v).e = s.e := rfl

@[simp] theorem setF_h (s : State) (v : Byte) : (s.setF v).h = s.h := rfl

@[simp] theorem setF_l (s : State) (v : Byte) : (s.setF v).l = s.l := rfl

@[simp] theorem setF_sp (s : State) (v : Byte) : (s.setF v).sp = s.sp := rfl

@[simp] theorem setF_pc (s : State) (v : Byte) : (s.setF v).pc = s.pc := rfl

@[simp] theorem setF_ime (s : State) (v : Byte) : (s.setF v).ime = s.ime := rfl

@[simp] theorem setF_eiDelay (s : State) (v : Byte) : (s.setF v).eiDelay = s.eiDelay := rfl

@[simp] theorem setF_halted (s : State) (v : Byte) : (s.setF v).halted = s.halted := rfl

@[simp] theorem setF_stopped (s : State) (v : Byte) : (s.setF v).stopped = s.stopped := rfl

@[simp] theorem setF_status (s : State) (v : Byte) : (s.setF v).status = s.status := rfl

@[simp] theorem setF_mem (s : State) (v : Byte) : (s.setF v).mem = s.mem := rfl

@[simp] theorem setF_versions (s : State) (v : Byte) : (s.setF v).versions = s.versions := rfl

@[simp] theorem setF_cart (s : State) (v : Byte) : (s.setF v).cart = s.cart := rfl

@[simp] theorem setF_apu (s : State) (v : Byte) : (s.setF v).apu = s.apu := rfl

@[simp] theorem setF_arm (s : State) (v : Byte) : (s.setF v).arm = s.arm := rfl

@[simp] theorem setF_cycles (s : State) (v : Byte) : (s.setF v).cycles = s.cycles := rfl

@[simp] theorem setF_env (s : State) (v : Byte) : (s.setF v).env = s.env := rfl

@[simp] theorem setF_sink (s : State) (v : Byte) : (s.setF v).sink = s.sink := rfl

@[simp] theorem setF_f (s : State) (v : Byte) : (s.setF v).f = v &&& 0xF0#8 := rfl

/-! ### `setReg`, `setPair`, `setStackPair` -/

@[simp] theorem setReg_f (s : State) (r : Reg8) (v : Byte) : (s.setReg r v).f = s.f := by cases r <;> rfl

@[simp] theorem setReg_sp (s : State) (r : Reg8) (v : Byte) : (s.setReg r v).sp = s.sp := by cases r <;> rfl

@[simp] theorem setReg_pc (s : State) (r : Reg8) (v : Byte) : (s.setReg r v).pc = s.pc := by cases r <;> rfl

@[simp] theorem setReg_ime (s : State) (r : Reg8) (v : Byte) : (s.setReg r v).ime = s.ime := by cases r <;> rfl

@[simp] theorem setReg_eiDelay (s : State) (r : Reg8) (v : Byte) : (s.setReg r v).eiDelay = s.eiDelay := by cases r <;> rfl

@[simp] theorem setReg_halted (s : State) (r : Reg8) (v : Byte) : (s.setReg r v).halted = s.halted := by cases r <;> rfl

@[simp] theorem setReg_stopped (s : State) (r : Reg8) (v : Byte) : (s.setReg r v).stopped = s.stopped := by cases r <;> rfl

@[simp] theorem setReg_status (s : State) (r : Reg8) (v : Byte) : (s.setReg r v).status = s.status := by cases r <;> rfl

@[simp] theorem setReg_mem (s : State) (r : Reg8) (v : Byte) : (s.setReg r v).mem = s.mem := by cases r <;> rfl

@[simp] theorem setReg_versions (s : State) (r : Reg8) (v : Byte) : (s.setReg r v).versions = s.versions := by cases r <;> rfl

@[simp] theorem setReg_cart (s : State) (r : Reg8) (v : Byte) : (s.setReg r v).cart = s.cart := by cases r <;> rfl

@[simp] theorem setReg_apu (s : State) (r : Reg8) (v : Byte) : (s.setReg r v).apu = s.apu := by cases r <;> rfl

@[simp] theorem setReg_arm (s : State) (r : Reg8) (v : Byte) : (s.setReg r v).arm = s.arm := by cases r <;> rfl

@[simp] theorem setReg_cycles (s : State) (r : Reg8) (v : Byte) : (s.setReg r v).cycles = s.cycles := by cases r <;> rfl

@[simp] theorem setReg_env (s : State) (r : Reg8) (v : Byte) : (s.setReg r v).env = s.env := by cases r <;> rfl

@[simp] theorem setReg_sink (s : State) (r : Reg8) (v : Byte) : (s.setReg r v).sink = s.sink := by cases r <;> rfl

@[simp] theorem setPair_a (s : State) (p : Pair) (w : Word) : (s.setPair p w).a = s.a := by cases p <;> rfl

@[simp] theorem setPair_f (s : State) (p : Pair) (w : Word) : (s.setPair p w).f = s.f := by cases p <;> rfl

@[simp] theorem setPair_pc (s : State) (p : Pair) (w : Word) : (s.setPair p w).pc = s.pc := by cases p <;> rfl

@[simp] theorem setPair_ime (s : State) (p : Pair) (w : Word) : (s.setPair p w).ime = s.ime := by cases p <;> rfl

@[simp] theorem setPair_eiDelay (s : State) (p : Pair) (w : Word) : (s.setPair p w).eiDelay = s.eiDelay := by cases p <;> rfl

@[simp] theorem setPair_halted (s : State) (p : Pair) (w : Word) : (s.setPair p w).halted = s.halted := by cases p <;> rfl

@[simp] theorem setPair_stopped (s : State) (p : Pair) (w : Word) : (s.setPair p w).stopped = s.stopped := by cases p <;> rfl

@[simp] theorem setPair_status (s : State) (p : Pair) (w : Word) : (s.setPair p w).status = s.status := by cases p <;> rfl

@[simp] theorem setPair_mem (s : State) (p : Pair) (w : Word) : (s.setPair p w).mem = s.mem := by cases p <;> rfl

@[simp] theorem setPair_versions (s : State) (p : Pair) (w : Word) : (s.setPair p w).versions = s.versions := by cases p <;> rfl

@[simp] theorem setPair_cart (s : State) (p : Pair) (w : Word) : (s.setPair p w).cart = s.cart := by cases p <;> rfl

@[simp] theorem setPair_apu (s : State) (p : Pair) (w : Word) : (s.setPair p w).apu = s.apu := by cases p <;> rfl

@[simp] theorem setPair_arm (s : State) (p : Pair) (w : Word) : (s.setPair p w).arm = s.arm := by cases p <;> rfl

@[simp] theorem setPair_cycles (s : State) (p : Pair) (w : Word) : (s.setPair p w).cycles = s.cycles := by cases p <;> rfl

@[simp] theorem setPair_env (s : State) (p : Pair) (w : Word) : (s.setPair p w).env = s.env := by cases p <;> rfl

@[simp] theorem setPair_sink (s : State) (p : Pair) (w : Word) : (s.setPair p w).sink = s.sink := by cases p <;> rfl

@[simp] theorem setStackPair_sp (s : State) (p : StackPair) (w : Word) : (s.setStackPair p w).sp = s.sp := by cases p <;> rfl

@[simp] theorem setStackPair_pc (s : State) (p : StackPair) (w : Word) : (s.setStackPair p w).pc = s.pc := by cases p <;> rfl

@[simp] theorem setStackPair_ime (s : State) (p : StackPair) (w : Word) : (s.setStackPair p w).ime = s.ime := by cases p <;> rfl

@[simp] theorem setStackPair_eiDelay (s : State) (p : StackPair) (w : Word) : (s.setStackPair p w).eiDelay = s.eiDelay := by cases p <;> rfl

@[simp] theorem setStackPair_halted (s : State) (p : StackPair) (w : Word) : (s.setStackPair p w).halted = s.halted := by cases p <;> rfl

@[simp] theorem setStackPair_stopped (s : State) (p : StackPair) (w : Word) : (s.setStackPair p w).stopped = s.stopped := by cases p <;> rfl

@[simp] theorem setStackPair_status (s : State) (p : StackPair) (w : Word) : (s.setStackPair p w).status = s.status := by cases p <;> rfl

@[simp] theorem setStackPair_mem (s : State) (p : StackPair) (w : Word) : (s.setStackPair p w).mem = s.mem := by cases p <;> rfl

@[simp] theorem setStackPair_versions (s : State) (p : StackPair) (w : Word) : (s.setStackPair p w).versions = s.versions := by cases p <;> rfl

@[simp] theorem setStackPair_cart (s : State) (p : StackPair) (w : Word) : (s.setStackPair p w).cart = s.cart := by cases p <;> rfl

@[simp] theorem setStackPair_apu (s : State) (p : StackPair) (w : Word) : (s.setStackPair p w).apu = s.apu := by cases p <;> rfl

@[simp] theorem setStackPair_arm (s : State) (p : StackPair) (w : Word) : (s.setStackPair p w).arm = s.arm := by cases p <;> rfl

@[simp] theorem setStackPair_cycles (s : State) (p : StackPair) (w : Word) : (s.setStackPair p w).cycles = s.cycles := by cases p <;> rfl

@[simp] theorem setStackPair_env (s : State) (p : StackPair) (w : Word) : (s.setStackPair p w).env = s.env := by cases p <;> rfl

@[simp] theorem setStackPair_sink (s : State) (p : StackPair) (w : Word) : (s.setStackPair p w).sink = s.sink := by cases p <;> rfl

/-- A register read after it is written gives the value written. -/
@[simp] theorem getReg_setReg_self (s : State) (r : Reg8) (v : Byte) : (s.setReg r v).getReg r = v := by
  cases r <;> rfl

/-- Writing one register leaves the others. -/
theorem getReg_setReg_of_ne (s : State) {r q : Reg8} (v : Byte) (h : q ≠ r) :
    (s.setReg r v).getReg q = s.getReg q := by
  cases r <;> cases q <;> first | rfl | exact absurd rfl h

/-- The bits of `hi ∥ lo` (R8). -/
theorem getLsbD_joinWord (x y : Byte) (i : Nat) :
    (joinWord x y).getLsbD i = if i < 8 then y.getLsbD i else x.getLsbD (i - 8) := by
  have h := BitVec.getLsbD_append (x := x) (y := y) (i := i)
  cases hd : decide (i < 8) <;> simp_all [joinWord]

@[simp] theorem hiByte_joinWord (x y : Byte) : hiByte (joinWord x y) = x := by
  apply BitVec.eq_of_getLsbD_eq
  intro i hi
  simp [hiByte, hi, getLsbD_joinWord]

@[simp] theorem loByte_joinWord (x y : Byte) : loByte (joinWord x y) = y := by
  apply BitVec.eq_of_getLsbD_eq
  intro i hi
  simp [loByte, hi, getLsbD_joinWord]

/-- `hi ∥ lo` of a word's own bytes is the word (R12). -/
@[simp] theorem joinWord_hiByte_loByte (w : Word) : joinWord (hiByte w) (loByte w) = w := by
  apply BitVec.eq_of_getLsbD_eq
  intro i hi
  rw [getLsbD_joinWord]
  by_cases h : i < 8
  · simp [h, loByte]
  · have h8 : i - 8 < 8 := by omega
    have : 8 + (i - 8) = i := by omega
    simp [h, h8, hiByte, this]

/-- A pair read after it is written gives the word written (R12). -/
@[simp] theorem getPair_setPair_self (s : State) (p : Pair) (w : Word) : (s.setPair p w).getPair p = w := by
  cases p <;> simp [State.setPair, State.getPair, State.bc, State.de, State.hl]

/-- HL is what a write of the pair HL leaves. -/
@[simp] theorem hl_setPair_hl (s : State) (w : Word) : (s.setPair .hl w).hl = w := getPair_setPair_self s .hl w

/-- The four flags read back from the byte they are stored in (R11). -/
@[simp] theorem flagByte_bits (z n h c : Bool) :
    (flagByte z n h c).getLsbD 7 = z ∧ (flagByte z n h c).getLsbD 6 = n ∧ (flagByte z n h c).getLsbD 5 = h ∧
      (flagByte z n h c).getLsbD 4 = c := by
  cases z <;> cases n <;> cases h <;> cases c <;> decide

@[simp] theorem setFlags_flagZ (s : State) (z n h c : Bool) : (s.setFlags z n h c).flagZ = z :=
  (flagByte_bits z n h c).1

@[simp] theorem setFlags_flagN (s : State) (z n h c : Bool) : (s.setFlags z n h c).flagN = n :=
  (flagByte_bits z n h c).2.1

@[simp] theorem setFlags_flagH (s : State) (z n h c : Bool) : (s.setFlags z n h c).flagH = h :=
  (flagByte_bits z n h c).2.2.1

@[simp] theorem setFlags_flagC (s : State) (z n h c : Bool) : (s.setFlags z n h c).flagC = c :=
  (flagByte_bits z n h c).2.2.2

/-- F's low nibble is 0 in every byte of flags (R11). -/
theorem flagByte_low (z n h c : Bool) : flagByte z n h c &&& 0x0F#8 = 0#8 := by
  cases z <;> cases n <;> cases h <;> cases c <;> decide

/-- F's low nibble is 0 in every byte masked with 0xF0 (R11). -/
theorem maskF_low (v : Byte) : v &&& 0xF0#8 &&& 0x0F#8 = 0#8 := by
  rw [BitVec.and_assoc]
  simp

/-! ### `emit`, `setMasterPrev` -/

@[simp] theorem emit_a (s : State) (k : SinkCall) : (emit s k).a = s.a := rfl

@[simp] theorem emit_f (s : State) (k : SinkCall) : (emit s k).f = s.f := rfl

@[simp] theorem emit_b (s : State) (k : SinkCall) : (emit s k).b = s.b := rfl

@[simp] theorem emit_c (s : State) (k : SinkCall) : (emit s k).c = s.c := rfl

@[simp] theorem emit_d (s : State) (k : SinkCall) : (emit s k).d = s.d := rfl

@[simp] theorem emit_e (s : State) (k : SinkCall) : (emit s k).e = s.e := rfl

@[simp] theorem emit_h (s : State) (k : SinkCall) : (emit s k).h = s.h := rfl

@[simp] theorem emit_l (s : State) (k : SinkCall) : (emit s k).l = s.l := rfl

@[simp] theorem emit_sp (s : State) (k : SinkCall) : (emit s k).sp = s.sp := rfl

@[simp] theorem emit_pc (s : State) (k : SinkCall) : (emit s k).pc = s.pc := rfl

@[simp] theorem emit_ime (s : State) (k : SinkCall) : (emit s k).ime = s.ime := rfl

@[simp] theorem emit_eiDelay (s : State) (k : SinkCall) : (emit s k).eiDelay = s.eiDelay := rfl

@[simp] theorem emit_halted (s : State) (k : SinkCall) : (emit s k).halted = s.halted := rfl

@[simp] theorem emit_stopped (s : State) (k : SinkCall) : (emit s k).stopped = s.stopped := rfl

@[simp] theorem emit_status (s : State) (k : SinkCall) : (emit s k).status = s.status := rfl

@[simp] theorem emit_mem (s : State) (k : SinkCall) : (emit s k).mem = s.mem := rfl

@[simp] theorem emit_versions (s : State) (k : SinkCall) : (emit s k).versions = s.versions := rfl

@[simp] theorem emit_cart (s : State) (k : SinkCall) : (emit s k).cart = s.cart := rfl

@[simp] theorem emit_apu (s : State) (k : SinkCall) : (emit s k).apu = s.apu := rfl

@[simp] theorem emit_arm (s : State) (k : SinkCall) : (emit s k).arm = s.arm := rfl

@[simp] theorem emit_cycles (s : State) (k : SinkCall) : (emit s k).cycles = s.cycles := rfl

@[simp] theorem emit_env (s : State) (k : SinkCall) : (emit s k).env = s.env := rfl

@[simp] theorem emit_sink (s : State) (k : SinkCall) : (emit s k).sink = s.sink ++ [k] := rfl

@[simp] theorem setMasterPrev_a (s : State) (b : Bool) : (setMasterPrev b s).a = s.a := rfl

@[simp] theorem setMasterPrev_f (s : State) (b : Bool) : (setMasterPrev b s).f = s.f := rfl

@[simp] theorem setMasterPrev_b (s : State) (x : Bool) : (setMasterPrev x s).b = s.b := rfl

@[simp] theorem setMasterPrev_c (s : State) (b : Bool) : (setMasterPrev b s).c = s.c := rfl

@[simp] theorem setMasterPrev_d (s : State) (b : Bool) : (setMasterPrev b s).d = s.d := rfl

@[simp] theorem setMasterPrev_e (s : State) (b : Bool) : (setMasterPrev b s).e = s.e := rfl

@[simp] theorem setMasterPrev_h (s : State) (b : Bool) : (setMasterPrev b s).h = s.h := rfl

@[simp] theorem setMasterPrev_l (s : State) (b : Bool) : (setMasterPrev b s).l = s.l := rfl

@[simp] theorem setMasterPrev_sp (s : State) (b : Bool) : (setMasterPrev b s).sp = s.sp := rfl

@[simp] theorem setMasterPrev_pc (s : State) (b : Bool) : (setMasterPrev b s).pc = s.pc := rfl

@[simp] theorem setMasterPrev_ime (s : State) (b : Bool) : (setMasterPrev b s).ime = s.ime := rfl

@[simp] theorem setMasterPrev_eiDelay (s : State) (b : Bool) : (setMasterPrev b s).eiDelay = s.eiDelay := rfl

@[simp] theorem setMasterPrev_halted (s : State) (b : Bool) : (setMasterPrev b s).halted = s.halted := rfl

@[simp] theorem setMasterPrev_stopped (s : State) (b : Bool) : (setMasterPrev b s).stopped = s.stopped := rfl

@[simp] theorem setMasterPrev_status (s : State) (b : Bool) : (setMasterPrev b s).status = s.status := rfl

@[simp] theorem setMasterPrev_mem (s : State) (b : Bool) : (setMasterPrev b s).mem = s.mem := rfl

@[simp] theorem setMasterPrev_versions (s : State) (b : Bool) : (setMasterPrev b s).versions = s.versions := rfl

@[simp] theorem setMasterPrev_cart (s : State) (b : Bool) : (setMasterPrev b s).cart = s.cart := rfl

@[simp] theorem setMasterPrev_arm (s : State) (b : Bool) : (setMasterPrev b s).arm = s.arm := rfl

@[simp] theorem setMasterPrev_cycles (s : State) (b : Bool) : (setMasterPrev b s).cycles = s.cycles := rfl

@[simp] theorem setMasterPrev_env (s : State) (b : Bool) : (setMasterPrev b s).env = s.env := rfl

@[simp] theorem setMasterPrev_sink (s : State) (b : Bool) : (setMasterPrev b s).sink = s.sink := rfl

end Sys2Proof.Machine
end

