-- ==== Sys2Proof/Laws/Ops.lean ====
section
/-! SUPPORT. What each bus and stack operation can do, said once (spec/20_memory.md R51 to R57). Later proofs cite these
and do not unfold the operations. -/

namespace Sys2Proof.Machine

/-! ### Regions and storage -/

theorem inCart_iff (a : Word) : inCart a = true ↔ regionOf a = .rom ∨ regionOf a = .extRam := by
  simp only [inCart, regionOf, Bool.or_eq_true, decide_eq_true_eq]
  split_ifs <;> simp <;> omega

theorem isHandle_of_region {a : Word} (h : regionOf a = .io ∨ regionOf a = .ie) : isHandle a.toNat = true := by
  have := a.isLt
  simp only [regionOf, isHandle, Bool.or_eq_true, decide_eq_true_eq] at *
  split_ifs at h <;> simp at h <;> omega

theorem storageAddr_of_handle {a : Word} (h : isHandle a.toNat = true) : storageAddr a = a.toNat := by
  simp only [storageAddr, isHandle, Bool.or_eq_true, decide_eq_true_eq] at *
  split_ifs <;> omega

/-- The storage of a plain region: RAM above 0x8000, no handle. -/
theorem storage_of_plain {a : Word}
    (h : regionOf a = .vram ∨ regionOf a = .wram ∨ regionOf a = .echo ∨ regionOf a = .oam ∨ regionOf a = .hram) :
    hasStorage (storageAddr a) = true ∧ 0x8000 ≤ storageAddr a ∧ isHandle (storageAddr a) = false := by
  have := a.isLt
  simp only [regionOf] at h
  have hb : storageAddr a = a.toNat ∨ storageAddr a = a.toNat - 0x2000 ∧ 0xE000 ≤ a.toNat ∧ a.toNat < 0xFE00 := by
    simp only [storageAddr]; split_ifs <;> simp_all
  have he : 0xE000 ≤ a.toNat → a.toNat < 0xFE00 → storageAddr a = a.toNat - 0x2000 := fun h1 h2 => by
    simp only [storageAddr]; rw [if_pos ⟨h1, h2⟩]
  generalize storageAddr a = n at *
  refine ⟨?_, ?_, ?_⟩
  · simp only [hasStorage, Bool.or_eq_true, decide_eq_true_eq]
    split_ifs at h <;> simp at h <;> omega
  · split_ifs at h <;> simp at h <;> omega
  · simp only [isHandle, Bool.or_eq_false_iff, decide_eq_false_iff_not]
    split_ifs at h <;> simp at h <;> omega

/-! ### The cartridge -/

/-- A cartridge write changes the cartridge's internal state and nothing else. -/
theorem cartWrite_some {s t : State} {a : Word} {v : Byte} (h : cartWrite s a v = some t) :
    ∃ cs, t = { s with cart := { s.cart with state := cs } } := by
  unfold cartWrite at h
  split at h
  · obtain ⟨cs, -, rfl⟩ := Option.map_eq_some_iff.1 h
    exact ⟨cs, rfl⟩
  · cases h; exact ⟨s.cart.state, rfl⟩

theorem cartRead_isSome {s : State} (h : s.cart.acceptsAll = true) (a : Word) : ∃ v, cartRead s a = some v := by
  unfold cartRead
  split
  · rename_i r hr
    have hm := List.mem_of_find?_eq_some hr
    simp only [Cart.acceptsAll, Bool.and_eq_true, List.all_eq_true] at h
    exact Option.isSome_iff_exists.1 (h.1 r hm)
  · split_ifs <;> exact ⟨_, rfl⟩

theorem cartWrite_isSome {s : State} (h : s.cart.acceptsAll = true) (a : Word) (v : Byte) :
    ∃ t, cartWrite s a v = some t := by
  unfold cartWrite
  split
  · rename_i r hr
    have hm := List.mem_of_find?_eq_some hr
    simp only [Cart.acceptsAll, Bool.and_eq_true, List.all_eq_true] at h
    obtain ⟨cs, hcs⟩ := Option.isSome_iff_exists.1 (h.2 r hm)
    exact ⟨_, by rw [hcs]; rfl⟩
  · exact ⟨_, rfl⟩

/-! ### Reads -/

/-- A read outside the cartridge's ranges succeeds, with the stored byte, or 0xFF in the prohibited range (R51). -/
theorem memRead_of_not_inCart {s : State} {a : Word} (h : inCart a = false) :
    memRead s a = .ok (if regionOf a = .prohibited then 0xFF#8 else Memory.get s.mem (storageAddr a)) := by
  have hc : ¬ (regionOf a = .rom ∨ regionOf a = .extRam) := fun hh => by
    rw [(inCart_iff a).2 hh] at h; cases h
  have hh : regionOf a = .io ∨ regionOf a = .ie → storageAddr a = a.toNat := fun hr =>
    storageAddr_of_handle (isHandle_of_region hr)
  unfold memRead
  cases hr : regionOf a <;> simp_all [handleValue]

/-- A read in the cartridge's ranges is the cartridge's answer (R51, R53). -/
theorem memRead_of_inCart {s : State} {a : Word} (h : inCart a = true) :
    memRead s a = match cartRead s a with
      | some v => .ok v
      | none => .error (.memoryFault a .read) := by
  unfold memRead
  rcases (inCart_iff a).1 h with hr | hr <;> cases hc : cartRead s a <;> simp only [hr]

/-- A refused read is the memory fault of its address, in the cartridge's ranges (R53, R300). -/
theorem memRead_error {s : State} {a : Word} {f : Fault} (h : memRead s a = .error f) :
    f = .memoryFault a .read ∧ inCart a = true ∧ cartRead s a = none := by
  cases hc : inCart a with
  | false => rw [memRead_of_not_inCart hc] at h; cases h
  | true =>
    rw [memRead_of_inCart hc] at h
    split at h <;> cases h
    exact ⟨rfl, rfl, by assumption⟩

theorem memRead_ok_of_accepts {s : State} (h : s.cart.acceptsAll = true) (a : Word) : ∃ v, memRead s a = .ok v := by
  cases hc : inCart a with
  | false => exact ⟨_, memRead_of_not_inCart hc⟩
  | true =>
    obtain ⟨v, hv⟩ := cartRead_isSome h a
    exact ⟨v, by rw [memRead_of_inCart hc, hv]⟩

/-- A read depends only on the stored byte it names and, in the cartridge's ranges, on the cartridge. -/
theorem memRead_congr {s t : State} {a : Word} (hcart : inCart a = true → t.cart = s.cart)
    (hmem : Memory.get t.mem (storageAddr a) = Memory.get s.mem (storageAddr a)) : memRead t a = memRead s a := by
  cases hc : inCart a with
  | false => rw [memRead_of_not_inCart hc, memRead_of_not_inCart hc, hmem]
  | true =>
    rw [memRead_of_inCart hc, memRead_of_inCart hc]
    have hs : a.toNat < 0x8000 → storageAddr a = a.toNat := fun h => by
      simp only [storageAddr]; split_ifs <;> omega
    have : cartRead t a = cartRead s a := by
      unfold cartRead
      rw [hcart hc]
      split
      · rfl
      · split_ifs with h8
        · rw [hs h8] at hmem; rw [hmem]
        · rfl
    rw [this]

/-! ### Writes -/

/-- Everything a write can do (R52): change the cartridge's internal state, do nothing in the prohibited range, write a
handle, or store one byte. -/
theorem memWrite_cases {s t : State} {a : Word} {v : Byte} (h : memWrite s a v = .ok t) :
    (inCart a = true ∧ ∃ cs, t = { s with cart := { s.cart with state := cs } }) ∨
    (regionOf a = .prohibited ∧ t = s) ∨
    (isHandle a.toNat = true ∧ storageAddr a = a.toNat ∧ t = handleWrite s a v) ∨
    ((hasStorage (storageAddr a) = true ∧ 0x8000 ≤ storageAddr a ∧ isHandle (storageAddr a) = false) ∧
      t = { s with mem := Memory.put s.mem (storageAddr a) v }) := by
  have hcart : ∀ hr : regionOf a = .rom ∨ regionOf a = .extRam,
      (match cartWrite s a v with
        | some s' => Except.ok s'
        | none => Except.error (Fault.memoryFault a .write)) = .ok t →
      inCart a = true ∧ ∃ cs, t = { s with cart := { s.cart with state := cs } } := fun hr h => by
    split at h <;> cases h
    exact ⟨(inCart_iff a).2 hr, cartWrite_some (by assumption)⟩
  have hio : ∀ hr : regionOf a = .io ∨ regionOf a = .ie,
      isHandle a.toNat = true ∧ storageAddr a = a.toNat := fun hr =>
    ⟨isHandle_of_region hr, storageAddr_of_handle (isHandle_of_region hr)⟩
  unfold memWrite at h
  cases hr : regionOf a <;> rw [hr] at h <;> simp only at h
  · exact .inl (hcart (.inl hr) h)
  · exact .inr (.inr (.inr ⟨storage_of_plain (by simp [hr]), by cases h; rfl⟩))
  · exact .inl (hcart (.inr hr) h)
  · exact .inr (.inr (.inr ⟨storage_of_plain (by simp [hr]), by cases h; rfl⟩))
  · exact .inr (.inr (.inr ⟨storage_of_plain (by simp [hr]), by cases h; rfl⟩))
  · exact .inr (.inr (.inr ⟨storage_of_plain (by simp [hr]), by cases h; rfl⟩))
  · cases h; exact .inr (.inl ⟨rfl, rfl⟩)
  · cases h; exact .inr (.inr (.inl ⟨(hio (.inl hr)).1, (hio (.inl hr)).2, rfl⟩))
  · exact .inr (.inr (.inr ⟨storage_of_plain (by simp [hr]), by cases h; rfl⟩))
  · cases h; exact .inr (.inr (.inl ⟨(hio (.inr hr)).1, (hio (.inr hr)).2, rfl⟩))

/-- A refused write is the memory fault of its address, in the cartridge's ranges (R53, R300). -/
theorem memWrite_error {s : State} {a : Word} {v : Byte} {f : Fault} (h : memWrite s a v = .error f) :
    f = .memoryFault a .write ∧ inCart a = true ∧ cartWrite s a v = none := by
  unfold memWrite at h
  cases hr : regionOf a <;> rw [hr] at h <;> simp only at h <;> try cases h
  all_goals
    split at h <;> cases h
    exact ⟨rfl, (inCart_iff a).2 (by simp [hr]), by assumption⟩

theorem memWrite_ok_of_accepts {s : State} (h : s.cart.acceptsAll = true) (a : Word) (v : Byte) :
    ∃ t, memWrite s a v = .ok t := by
  cases hw : memWrite s a v with
  | ok t => exact ⟨t, rfl⟩
  | error f =>
    obtain ⟨t, ht⟩ := cartWrite_isSome h a v
    rw [(memWrite_error hw).2.2] at ht; cases ht

theorem memWrite_ok_of_not_inCart {s : State} {a : Word} (h : inCart a = false) (v : Byte) :
    ∃ t, memWrite s a v = .ok t := by
  cases hw : memWrite s a v with
  | ok t => exact ⟨t, rfl⟩
  | error f => rw [(memWrite_error hw).2.1] at h; cases h

/-- A write changes stored bytes, versions and the cartridge's internal state only. -/
theorem memWrite_frame {s t : State} {a : Word} {v : Byte} (h : memWrite s a v = .ok t) : s.sameButBus t := by
  rcases memWrite_cases h with ⟨-, cs, rfl⟩ | ⟨-, rfl⟩ | ⟨-, -, rfl⟩ | ⟨-, rfl⟩ <;> rfl

/-- A write leaves every stored byte but the one its address names. -/
theorem memWrite_get_of_ne {s t : State} {a : Word} {v : Byte} {n : Nat} (h : memWrite s a v = .ok t)
    (hn : n ≠ storageAddr a) : Memory.get t.mem n = Memory.get s.mem n := by
  rcases memWrite_cases h with ⟨-, cs, rfl⟩ | ⟨-, rfl⟩ | ⟨-, hs, rfl⟩ | ⟨-, rfl⟩
  · rfl
  · rfl
  · rw [handleWrite_mem]; exact Memory.get_put_of_ne (hs ▸ hn)
  · exact Memory.get_put_of_ne hn

/-- A write never touches the ROM image (R52). -/
theorem memWrite_rom {s t : State} {a : Word} {v : Byte} {n : Nat} (h : memWrite s a v = .ok t) (hn : n < 0x8000) :
    Memory.get t.mem n = Memory.get s.mem n := by
  rcases memWrite_cases h with ⟨-, cs, rfl⟩ | ⟨-, rfl⟩ | ⟨hh, -, rfl⟩ | ⟨⟨-, h8, -⟩, rfl⟩
  · rfl
  · rfl
  · rw [handleWrite_mem]
    refine Memory.get_put_of_ne ?_
    simp only [isHandle, Bool.or_eq_true, decide_eq_true_eq] at hh
    omega
  · exact Memory.get_put_of_ne (by omega)

theorem handleWrite_memOk {s : State} {a : Word} {v : Byte} (h : s.memOk) (ha : isHandle a.toNat = true) :
    (handleWrite s a v).memOk :=
  ⟨Memory.put_wf h.1 (hasStorage_of_isHandle ha), Versions.put_wf h.2 ha⟩

/-- A write keeps memory and versions in canonical form. -/
theorem memWrite_memOk {s t : State} {a : Word} {v : Byte} (h : memWrite s a v = .ok t) (hs : s.memOk) : t.memOk := by
  rcases memWrite_cases h with ⟨-, cs, rfl⟩ | ⟨-, rfl⟩ | ⟨hh, -, rfl⟩ | ⟨⟨hst, -, -⟩, rfl⟩
  · exact hs
  · exact hs
  · exact handleWrite_memOk hs hh
  · exact ⟨Memory.put_wf hs.1 hst, hs.2⟩

theorem evolves_refl {s : State} (h : s.memOk) : s.evolves s :=
  ⟨h, fun _ _ => rfl, fun _ => le_rfl, fun _ _ _ => rfl⟩

theorem evolves_trans {s t u : State} (h1 : s.evolves t) (h2 : t.evolves u) : s.evolves u := by
  obtain ⟨-, r1, v1, c1⟩ := h1
  obtain ⟨m2, r2, v2, c2⟩ := h2
  refine ⟨m2, fun n hn => (r2 n hn).trans (r1 n hn), fun a => (v1 a).trans (v2 a), fun a ha he => ?_⟩
  have h1 := v1 a
  have h2 := v2 a
  rw [c2 a ha (by omega), c1 a ha (by omega)]

/-- `evolves` speaks of memory and versions alone. -/
theorem evolves_congr {s t u : State} (h : s.evolves t) (hm : u.mem = t.mem) (hv : u.versions = t.versions) :
    s.evolves u := by
  simpa only [State.evolves, State.memOk, handleVersion, handleValue, hm, hv] using h

theorem handleVersion_handleWrite {s : State} {a b : Word} {v : Byte} (h : s.memOk) :
    handleVersion (handleWrite s a v) b = if b = a then handleVersion s a + 1 else handleVersion s b := by
  rw [handleVersion, handleWrite_versions]
  split_ifs with hb
  · rw [hb, Versions.get_put_self h.2]
  · rw [Versions.get_put_of_ne (fun h => hb (BitVec.eq_of_toNat_eq h))]; rfl

theorem handleValue_handleWrite {s : State} {a b : Word} {v : Byte} (h : s.memOk) :
    handleValue (handleWrite s a v) b = if b = a then v else handleValue s b := by
  rw [handleValue, handleWrite_mem]
  split_ifs with hb
  · rw [hb, Memory.get_put_self h.1]
  · rw [Memory.get_put_of_ne (fun h => hb (BitVec.eq_of_toNat_eq h))]; rfl

theorem handleWrite_evolves {s : State} {a : Word} {v : Byte} (h : s.memOk) (ha : isHandle a.toNat = true) :
    s.evolves (handleWrite s a v) := by
  refine ⟨handleWrite_memOk h ha, fun n hn => ?_, fun b => ?_, fun b _ he => ?_⟩
  · rw [handleWrite_mem]
    refine Memory.get_put_of_ne ?_
    simp only [isHandle, Bool.or_eq_true, decide_eq_true_eq] at ha
    omega
  · rw [handleVersion_handleWrite h]; split_ifs with hb <;> simp [hb]
  · rw [handleVersion_handleWrite h] at he
    rw [handleValue_handleWrite h]
    split_ifs at he ⊢ with hb
    · rw [hb] at he; omega
    · rfl

/-- A write changes memory as `evolves` says. -/
theorem memWrite_evolves {s t : State} {a : Word} {v : Byte} (h : memWrite s a v = .ok t) (hs : s.memOk) :
    s.evolves t := by
  rcases memWrite_cases h with ⟨-, cs, rfl⟩ | ⟨-, rfl⟩ | ⟨hh, -, rfl⟩ | ⟨⟨hst, h8, hnh⟩, rfl⟩
  · exact evolves_congr (evolves_refl hs) rfl rfl
  · exact evolves_refl hs
  · exact handleWrite_evolves hs hh
  · refine ⟨⟨Memory.put_wf hs.1 hst, hs.2⟩, fun n hn => Memory.get_put_of_ne (by omega), fun _ => le_rfl,
      fun b hb _ => Memory.get_put_of_ne fun he => ?_⟩
    rw [← he, hb] at hnh; cases hnh

/-- What is read back outside the cartridge's ranges and the prohibited range is what was written (R51, R52). -/
theorem memRead_memWrite_self {s t : State} {a : Word} {v : Byte} (h : memWrite s a v = .ok t) (hs : s.memOk)
    (hc : inCart a = false) (hp : regionOf a ≠ .prohibited) : memRead t a = .ok v := by
  rw [memRead_of_not_inCart hc, if_neg hp]
  rcases memWrite_cases h with ⟨hin, -⟩ | ⟨hpr, -⟩ | ⟨-, hst, rfl⟩ | ⟨-, rfl⟩
  · rw [hc] at hin; cases hin
  · exact absurd hpr hp
  · rw [hst, handleWrite_mem, Memory.get_put_self hs.1]
  · rw [Memory.get_put_self hs.1]

/-! ### Words and the stack (R54 to R57) -/

/-- A word write is two byte writes, the low byte first (R55). -/
theorem memWrite16_ok {s t : State} {a w : Word} (h : memWrite16 s a w = .ok t) :
    ∃ s1, memWrite s a (loByte w) = .ok s1 ∧ memWrite s1 (a + 1#16) (hiByte w) = .ok t := by
  unfold memWrite16 at h
  split at h
  · exact ⟨_, by assumption, h⟩
  · cases h

theorem sameButBus_trans {s t u : State} (h1 : s.sameButBus t) (h2 : t.sameButBus u) : s.sameButBus u := by
  unfold State.sameButBus at *
  rw [h2, h1]

theorem memWrite16_frame {s t : State} {a w : Word} (h : memWrite16 s a w = .ok t) : s.sameButBus t := by
  obtain ⟨s1, h1, h2⟩ := memWrite16_ok h
  exact sameButBus_trans (memWrite_frame h1) (memWrite_frame h2)

theorem memWrite16_memOk {s t : State} {a w : Word} (h : memWrite16 s a w = .ok t) (hs : s.memOk) : t.memOk := by
  obtain ⟨s1, h1, h2⟩ := memWrite16_ok h
  exact memWrite_memOk h2 (memWrite_memOk h1 hs)

theorem memWrite16_evolves {s t : State} {a w : Word} (h : memWrite16 s a w = .ok t) (hs : s.memOk) :
    s.evolves t := by
  obtain ⟨s1, h1, h2⟩ := memWrite16_ok h
  exact evolves_trans (memWrite_evolves h1 hs) (memWrite_evolves h2 (memWrite_memOk h1 hs))

theorem memWrite16_get_of_ne {s t : State} {a w : Word} {n : Nat} (h : memWrite16 s a w = .ok t)
    (hn : n ≠ storageAddr a) (hn' : n ≠ storageAddr (a + 1#16)) : Memory.get t.mem n = Memory.get s.mem n := by
  obtain ⟨s1, h1, h2⟩ := memWrite16_ok h
  rw [memWrite_get_of_ne h2 hn', memWrite_get_of_ne h1 hn]

/-- A word read is two byte reads (R54). -/
theorem memRead16_ok {s : State} {a w : Word} (h : memRead16 s a = .ok w) :
    ∃ lo hi, memRead s a = .ok lo ∧ memRead s (a + 1#16) = .ok hi ∧ w = joinWord hi lo := by
  unfold memRead16 at h
  split at h
  · split at h
    · cases h; exact ⟨_, _, by assumption, by assumption, rfl⟩
    · cases h
  · cases h

/-- A pop reads the word at SP and moves SP by 2, and that is all it does (R57). -/
theorem pop16_ok {s : State} {r : Word × State} (h : pop16 s = .ok r) :
    memRead16 s s.sp = .ok r.1 ∧ r.2 = { s with sp := s.sp + 2#16 } := by
  unfold pop16 at h
  split at h
  · cases h; exact ⟨by assumption, rfl⟩
  · cases h

/-- A push moves SP by 2, then writes the word at the new SP (R56). -/
theorem push16_frame {s t : State} {w : Word} (h : push16 s w = .ok t) :
    ({ s with sp := s.sp - 2#16 } : State).sameButBus t :=
  memWrite16_frame h

theorem push16_memOk {s t : State} {w : Word} (h : push16 s w = .ok t) (hs : s.memOk) : t.memOk :=
  memWrite16_memOk h hs

/-- A fault that the bus raises: of an address in the cartridge's ranges (R53, R300). -/
def Fault.ofCart (f : Fault) : Prop := ∃ a k, f = .memoryFault a k ∧ inCart a = true

theorem memRead_ofCart {s : State} {a : Word} {f : Fault} (h : memRead s a = .error f) : f.ofCart :=
  ⟨a, .read, (memRead_error h).1, (memRead_error h).2.1⟩

theorem memWrite_ofCart {s : State} {a : Word} {v : Byte} {f : Fault} (h : memWrite s a v = .error f) : f.ofCart :=
  ⟨a, .write, (memWrite_error h).1, (memWrite_error h).2.1⟩

theorem memRead16_ofCart {s : State} {a : Word} {f : Fault} (h : memRead16 s a = .error f) : f.ofCart := by
  unfold memRead16 at h
  split at h
  · split at h <;> cases h
    exact memRead_ofCart (by assumption)
  · cases h
    exact memRead_ofCart (by assumption)

theorem memWrite16_ofCart {s : State} {a w : Word} {f : Fault} (h : memWrite16 s a w = .error f) : f.ofCart := by
  unfold memWrite16 at h
  split at h
  · exact memWrite_ofCart h
  · cases h
    exact memWrite_ofCart (by assumption)

theorem push16_ofCart {s : State} {w : Word} {f : Fault} (h : push16 s w = .error f) : f.ofCart := memWrite16_ofCart h

theorem pop16_ofCart {s : State} {f : Fault} (h : pop16 s = .error f) : f.ofCart := by
  unfold pop16 at h
  split at h <;> cases h
  exact memRead16_ofCart (by assumption)

/-- What `andThen` answers as a fault is the refused access's, or comes after it. -/
theorem andThen_fault {α : Type} {x : Except Fault α} {k : α → Answer} {f : Fault} (h : andThen x k = .fault f) :
    x = .error f ∨ ∃ v, x = .ok v ∧ k v = .fault f := by
  cases x with
  | ok v => exact .inr ⟨v, rfl, h⟩
  | error g => cases h; exact .inl rfl

/-- What `andThen` answers as a next state comes from an access that was not refused. -/
theorem andThen_next {α : Type} {x : Except Fault α} {k : α → Answer} {t : State} (h : andThen x k = .next t) :
    ∃ v, x = .ok v ∧ k v = .next t := by
  cases x with
  | ok v => exact ⟨v, rfl, h⟩
  | error f => cases h

theorem finish_next {m : Nat} {s t : State} (h : finish m s = .next t) : t = { s with cycles := m } := by
  cases h; rfl

/-- A read operand is a register's value or the byte at HL (R82). -/
theorem writeOperand_frame {s t : State} {o : Operand8} {v : Byte} (h : writeOperand s o v = .ok t) :
    (∃ r, o = .reg r ∧ t = s.setReg r v) ∨ (o = .memHL ∧ memWrite s s.hl v = .ok t) := by
  cases o with
  | reg r => cases h; exact .inl ⟨r, rfl, rfl⟩
  | memHL => exact .inr ⟨rfl, h⟩

theorem writeOperand_memOk {s t : State} {o : Operand8} {v : Byte} (h : writeOperand s o v = .ok t) (hs : s.memOk) :
    t.memOk := by
  rcases writeOperand_frame h with ⟨r, -, rfl⟩ | ⟨-, hw⟩
  · simpa [State.memOk] using hs
  · exact memWrite_memOk hw hs

/-! ### Interrupt service and return (R258, R260, R314) -/

/-- A service pushes PC, goes to the vector, clears IME and the EI latch, and clears the request bit in what the push left
in IF (R314). -/
theorem serviceInterrupt_next {s t : State} {i : Nat} (h : serviceInterrupt s i = .next t) :
    ∃ s1, push16 s s.pc = .ok s1 ∧
      t = { handleWrite { s1 with pc := vectorOf i, ime := false, eiDelay := false } ioIF
              (handleValue s1 ioIF &&& ~~~(1#8 <<< i)) with cycles := 5 } := by
  obtain ⟨s1, h1, h2⟩ := andThen_next h
  exact ⟨s1, h1, finish_next h2⟩

/-- A return takes PC from the stack and moves SP by 2; with `setIme` it also sets IME (R258, R260). -/
theorem returnFrom_next {s t : State} {b : Bool} {m : Nat} (h : returnFrom s b m = .next t) :
    ∃ w, memRead16 s s.sp = .ok w ∧
      t = { s with sp := s.sp + 2#16, pc := w, ime := s.ime || b, cycles := m } := by
  obtain ⟨r, h1, h2⟩ := andThen_next h
  obtain ⟨hw, hs⟩ := pop16_ok h1
  refine ⟨r.1, hw, ?_⟩
  rw [finish_next h2, hs]

end Sys2Proof.Machine
end

