-- ==== Sys2Proof/Laws/Apu.lean ====
section
/-! SUPPORT. What the APU's operations can do (spec/60_exceptions.md section 4): they touch memory, versions, the APU and
the output port only, they keep the ranges of R41 and R42, and the frequency conversions are exact. -/

namespace Sys2Proof.Machine

/-! ### Frequencies and envelopes (R339 to R345) -/

theorem bitsToFrequency_pos {n : Nat} (h : n < 2048) : 0 < bitsToFrequency n := by
  have : (n : Rat) < 2048 := by exact_mod_cast h
  exact div_pos (by norm_num) (by linarith)

theorem loadParams_params {P : Type} [DecidableEq P] (e : Envelope P) (p : P) : (loadParams e p).params = some p := by
  unfold loadParams
  split
  · assumption
  · rfl

theorem loadParams_ok {P : Type} [DecidableEq P] {e : Envelope P} {p : P} (h : e.ok) : (loadParams e p).ok := by
  unfold loadParams
  split
  · exact h
  · exact le_rfl

/-- A run loads the pack, and elapsed time is 0 or what it was, plus `dt` (R334, R343, R344). -/
theorem runEnvelope_params {P : Type} [DecidableEq P] (e : Envelope P) (p : P) (edge : Bool) (dt : Rat) :
    (runEnvelope e p edge dt).params = some p := loadParams_params e p

theorem runEnvelope_elapsed {P : Type} [DecidableEq P] (e : Envelope P) (p : P) (edge : Bool) (dt : Rat) :
    (runEnvelope e p edge dt).elapsed =
      (if edge = true ∨ e.params ≠ some p then 0 else e.elapsed) + dt := by
  unfold runEnvelope loadParams
  cases edge <;> by_cases h : e.params = some p <;> simp [h]

theorem runEnvelope_ok {P : Type} [DecidableEq P] {e : Envelope P} {p : P} {edge : Bool} {dt : Rat} (h : e.ok)
    (hd : 0 ≤ dt) : (runEnvelope e p edge dt).ok := by
  unfold Envelope.ok at *
  rw [runEnvelope_elapsed]
  split
  · simpa using hd
  · exact add_nonneg h hd

/-- The amplitude step is a step of the 4-bit envelope (R340). -/
theorem ampStep_range (p : AmpPack) (t : Rat) : 0 ≤ ampStep p t ∧ ampStep p t ≤ 15 := by
  have := p.startStep.isLt
  unfold ampStep clampInt
  split
  · omega
  · exact ⟨le_min (le_max_right _ _) (by norm_num), min_le_right _ _⟩

theorem ampValue_range (p : AmpPack) (t : Rat) : 0 ≤ ampValue p t ∧ ampValue p t ≤ 1 := by
  obtain ⟨h0, h1⟩ := ampStep_range p t
  have h0' : (0 : Rat) ≤ (ampStep p t : Rat) := by exact_mod_cast h0
  have h1' : (ampStep p t : Rat) ≤ 15 := by exact_mod_cast h1
  unfold ampValue
  exact ⟨div_nonneg h0' (by norm_num), by rw [div_le_one (by norm_num)]; exact h1'⟩

theorem sweepFrequency_nonneg {p : SweepPack} {t old : Rat} (h : 0 ≤ old) : 0 ≤ sweepFrequency p t old := by
  unfold sweepFrequency
  split
  · exact (bitsToFrequency_pos p.startBits.isLt).le
  · rename_i hs
    unfold sweepStatus at hs
    split at hs
    · cases hs
    · split at hs
      · cases hs
      · exact (bitsToFrequency_pos (by omega)).le
  · exact h

/-! ### What the stages touch -/

/-- `t` comes from `s` by work of the APU: the CPU's part is the same, and memory evolves. -/
def State.apuWork (s t : State) : Prop := s.sameCpu t ∧ (s.memOk → s.evolves t)

theorem apuWork_trans {s t u : State} (h1 : s.apuWork t) (h2 : t.apuWork u) : s.apuWork u := by
  obtain ⟨c1, e1⟩ := h1
  obtain ⟨c2, e2⟩ := h2
  exact ⟨by unfold State.sameCpu at *; rw [c2, c1], fun h => evolves_trans (e1 h) (e2 (e1 h).1)⟩

theorem handleWrite_apuWork (s : State) {a : Word} (v : Byte) (ha : isHandle a.toNat = true) :
    s.apuWork (handleWrite s a v) := ⟨rfl, fun h => handleWrite_evolves h ha⟩

theorem handleBitWrite_apuWork (s : State) {a : Word} (i : Nat) (b : Bool) (ha : isHandle a.toNat = true) :
    s.apuWork (handleBitWrite s a i b) := handleWrite_apuWork s _ ha

theorem setApu_apuWork (s : State) (u : Apu) : s.apuWork { s with apu := u } :=
  ⟨rfl, fun h => evolves_congr (evolves_refl h) rfl rfl⟩

theorem emit_apuWork (s : State) (c : SinkCall) : s.apuWork (emit s c) :=
  ⟨rfl, fun h => evolves_congr (evolves_refl h) rfl rfl⟩

theorem masterVolume_apuWork (P : Config.Params) (b : Bool) (s : State) : s.apuWork (masterVolume P b s) :=
  ⟨rfl, fun h => evolves_congr (evolves_refl h) rfl rfl⟩

theorem apuWork_refl (s : State) : s.apuWork s := setApu_apuWork s s.apu

theorem runPulseA_apuWork (P : Config.Params) (dt : Rat) (s : State) : s.apuWork (runPulseA P dt s) :=
  apuWork_trans (setApu_apuWork s _) (handleBitWrite_apuWork _ _ _ rfl)

theorem runPulseB_apuWork (dt : Rat) (s : State) : s.apuWork (runPulseB dt s) :=
  apuWork_trans (setApu_apuWork s _) (handleBitWrite_apuWork _ _ _ rfl)

theorem runWave_apuWork (P : Config.Params) (dt : Rat) (s : State) : s.apuWork (runWave P dt s) :=
  apuWork_trans (setApu_apuWork s _) (handleBitWrite_apuWork _ _ _ rfl)

theorem runNoise_apuWork (P : Config.Params) (dt : Rat) (s : State) : s.apuWork (runNoise P dt s) :=
  apuWork_trans (setApu_apuWork s _) (handleBitWrite_apuWork _ _ _ rfl)

theorem emitRamps_apuWork (id : VoiceId) (v : Voice) (s : State) : s.apuWork (emitRamps id v s) :=
  apuWork_trans (apuWork_trans (emit_apuWork ..) (emit_apuWork ..)) (emit_apuWork ..)

theorem pushWavetable_apuWork (s : State) : s.apuWork (pushWavetable s) := by
  unfold pushWavetable
  simp only
  split
  · exact apuWork_refl s
  · exact apuWork_trans (emit_apuWork ..) (setApu_apuWork ..)

theorem updateAll_apuWork (s : State) : s.apuWork (updateAll s) :=
  apuWork_trans (apuWork_trans (apuWork_trans (apuWork_trans (emit_apuWork ..) (emitRamps_apuWork ..))
    (apuWork_trans (emit_apuWork ..) (emitRamps_apuWork ..)))
    (apuWork_trans (pushWavetable_apuWork ..) (emitRamps_apuWork ..))) (emitRamps_apuWork ..)

theorem clearRegs_apuWork {l : List Word} (h : l.all (fun a => isHandle a.toNat) = true) (s : State) :
    s.apuWork (l.foldl (fun t a => handleWrite t a 0x00#8) s) := by
  induction l generalizing s with
  | nil => exact apuWork_refl s
  | cons a l ih =>
    rw [List.all_cons, Bool.and_eq_true] at h
    exact apuWork_trans (handleWrite_apuWork s _ h.1) (ih h.2 _)

theorem soundRegs_isHandle : soundRegs.all (fun a => isHandle a.toNat) = true := by decide

theorem clearSoundRegs_apuWork (s : State) : s.apuWork (clearSoundRegs s) := clearRegs_apuWork soundRegs_isHandle s

theorem rampAllToZero_apuWork (s : State) : s.apuWork (rampAllToZero s) :=
  apuWork_trans (apuWork_trans (apuWork_trans (emit_apuWork ..) (emit_apuWork ..)) (emit_apuWork ..)) (emit_apuWork ..)

theorem masterDisable_apuWork (s : State) : s.apuWork (masterDisable s) :=
  apuWork_trans (apuWork_trans (clearSoundRegs_apuWork s) (setApu_apuWork ..)) (rampAllToZero_apuWork ..)

/-- A run of the APU leaves the CPU alone and lets memory evolve (R330 to R333). -/
theorem apuRun_apuWork (P : Config.Params) (t : Rat) (s : State) : s.apuWork (apuRun P t s) := by
  unfold apuRun
  simp only
  split
  · exact apuWork_trans (apuWork_trans (apuWork_trans (apuWork_trans (apuWork_trans (apuWork_trans (apuWork_trans
      (setApu_apuWork ..) (runPulseA_apuWork ..)) (runPulseB_apuWork ..)) (runWave_apuWork ..)) (runNoise_apuWork ..))
      (setApu_apuWork ..)) (masterVolume_apuWork ..)) (apuWork_trans (updateAll_apuWork ..) (masterVolume_apuWork ..))
  · refine apuWork_trans ?_ (setApu_apuWork ..)
    split
    · exact masterDisable_apuWork s
    · exact apuWork_refl s

/-! ### The ranges -/

/-- Parameters that give no negative frequency; the defaults do not. -/
def Config.nonneg (P : Config.Params) : Prop := 0 ≤ P.waveFreqNum ∧ ∀ v, 0 ≤ P.noiseFreq v

theorem Config.default_nonneg : Config.nonneg Config.default := by
  refine ⟨by norm_num [Config.default], fun v => ?_⟩
  simp only [Config.default, Config.defaultNoiseFreq]
  split <;> positivity

theorem Voice.afterRun_ok {v : Voice} {nr4 : Byte} {p : Bool} {f x : Rat} (hf : 0 ≤ f) (hx : 0 ≤ x ∧ x ≤ 1) :
    (v.afterRun nr4 p f x).ok := ⟨hf, hx⟩

theorem runPulseA_ok (P : Config.Params) {dt : Rat} {s : State} (hd : 0 ≤ dt) (h : s.apu.ok) :
    (runPulseA P dt s).apu.ok := by
  obtain ⟨⟨v0, v1, v2, v3⟩, ⟨m0, m1, m3⟩, e⟩ := h
  obtain ⟨e0, e1, e2, e3, e4, e5, e6, e7⟩ := e
  exact ⟨⟨Voice.afterRun_ok (sweepFrequency_nonneg v0.1) (ampValue_range ..), v1, v2, v3⟩, ⟨m0, m1, m3⟩,
    runEnvelope_ok e0 hd, runEnvelope_ok e1 hd, runEnvelope_ok e2 hd, e3, e4, e5, e6, e7⟩

theorem runPulseB_ok {dt : Rat} {s : State} (hd : 0 ≤ dt) (h : s.apu.ok) : (runPulseB dt s).apu.ok := by
  obtain ⟨⟨v0, v1, v2, v3⟩, ⟨m0, m1, m3⟩, e0, e1, e2, e3, e4, e5, e6, e7⟩ := h
  exact ⟨⟨v0, Voice.afterRun_ok (bitsToFrequency_pos (BitVec.isLt _)).le (ampValue_range ..), v2, v3⟩, ⟨m0, m1, m3⟩,
    e0, e1, e2, runEnvelope_ok e3 hd, runEnvelope_ok e4 hd, e5, e6, e7⟩

theorem runWave_ok {P : Config.Params} {dt : Rat} {s : State} (hP : Config.nonneg P) (hd : 0 ≤ dt) (h : s.apu.ok) :
    (runWave P dt s).apu.ok := by
  obtain ⟨⟨v0, v1, v2, v3⟩, ⟨m0, m1, m3⟩, e0, e1, e2, e3, e4, e5, e6, e7⟩ := h
  refine ⟨⟨v0, v1, Voice.afterRun_ok (v := s.apu.wave.voice) (nr4 := 0#8) (p := true) (div_nonneg hP.1 ?_)
    ⟨zero_le_one, le_rfl⟩, v3⟩, ⟨m0, m1, m3⟩, e0, e1, e2, e3, e4,
    runEnvelope_ok e5 hd, e6, e7⟩
  have : ((freqBits s ioNR33 ioNR34).toNat : Rat) ≤ 2048 := by
    exact_mod_cast (BitVec.isLt (freqBits s ioNR33 ioNR34)).le
  linarith

theorem runNoise_ok {P : Config.Params} {dt : Rat} {s : State} (hP : Config.nonneg P) (hd : 0 ≤ dt) (h : s.apu.ok) :
    (runNoise P dt s).apu.ok := by
  obtain ⟨⟨v0, v1, v2, v3⟩, ⟨m0, m1, m3⟩, e0, e1, e2, e3, e4, e5, e6, e7⟩ := h
  exact ⟨⟨v0, v1, v2, Voice.afterRun_ok (hP.2 _) (ampValue_range ..)⟩, ⟨m0, m1, m3⟩, e0, e1, e2, e3, e4, e5,
    runEnvelope_ok e6 hd, runEnvelope_ok e7 hd⟩

theorem pushWavetable_ok {s : State} (h : s.apu.ok) : (pushWavetable s).apu.ok := by
  unfold pushWavetable
  simp only
  split <;> exact h

@[simp] theorem emitRamps_apu (id : VoiceId) (v : Voice) (s : State) : (emitRamps id v s).apu = s.apu := rfl

@[simp] theorem updatePulseA_apu (s : State) : (updatePulseA s).apu = s.apu := rfl

@[simp] theorem updatePulseB_apu (s : State) : (updatePulseB s).apu = s.apu := rfl

@[simp] theorem updateWave_apu (s : State) : (updateWave s).apu = (pushWavetable s).apu := rfl

@[simp] theorem updateNoise_apu (s : State) : (updateNoise s).apu = s.apu := rfl

@[simp] theorem masterVolume_apu (P : Config.Params) (b : Bool) (s : State) : (masterVolume P b s).apu = s.apu := rfl

@[simp] theorem masterVolume_mem (P : Config.Params) (b : Bool) (s : State) : (masterVolume P b s).mem = s.mem := rfl

@[simp] theorem masterVolume_versions (P : Config.Params) (b : Bool) (s : State) :
    (masterVolume P b s).versions = s.versions := rfl

@[simp] theorem masterVolume_sink (P : Config.Params) (b : Bool) (s : State) : (masterVolume P b s).sink =
    s.sink ++ if b then [.setMasterVolume (P.masterVolume (handleValue s ioNR50)).1
      (P.masterVolume (handleValue s ioNR50)).2] else [] := rfl

@[simp] theorem rampAllToZero_apu (s : State) : (rampAllToZero s).apu = s.apu := rfl

@[simp] theorem clearSoundRegs_apu (s : State) : (clearSoundRegs s).apu = s.apu := by
  unfold clearSoundRegs
  generalize soundRegs = l
  induction l generalizing s with
  | nil => rfl
  | cons a l ih => exact ih _

theorem updateAll_ok {s : State} (h : s.apu.ok) : (updateAll s).apu.ok := by
  unfold updateAll
  rw [updateNoise_apu, updateWave_apu]
  refine pushWavetable_ok ?_
  rw [updatePulseB_apu, updatePulseA_apu]
  exact h

theorem silenceVoices_ok {s : State} (h : s.apu.ok) : (silenceVoices s).apu.ok := by
  unfold silenceVoices
  exact h

theorem masterDisable_ok {s : State} (h : s.apu.ok) : (masterDisable s).apu.ok := by
  unfold masterDisable
  rw [rampAllToZero_apu]
  refine silenceVoices_ok ?_
  rw [clearSoundRegs_apu]
  exact h

theorem route_ok {s : State} (h : s.apu.ok) : (route s).apu.ok := h

theorem setMasterPrev_ok {s : State} {b : Bool} (h : s.apu.ok) : (setMasterPrev b s).apu.ok := h

/-- A run of the APU keeps the ranges of R41 and R42. -/
theorem apuRun_ok {P : Config.Params} {t : Rat} {s : State} (hP : Config.nonneg P) (ht : 0 ≤ t) (h : s.apu.ok) :
    (apuRun P t s).apu.ok := by
  have hd : 0 ≤ t / 4194304 := div_nonneg ht (by norm_num)
  unfold apuRun
  simp only
  split
  · rw [masterVolume_apu]
    exact updateAll_ok (by
      rw [masterVolume_apu]
      exact route_ok (runNoise_ok hP hd (runWave_ok hP hd (runPulseB_ok hd (runPulseA_ok P hd
        (setMasterPrev_ok h))))))
  · refine setMasterPrev_ok ?_
    split
    · exact masterDisable_ok h
    · exact h

end Sys2Proof.Machine
end

