-- ==== Sys2Proof/Laws/ApuRun.lean ====
section
/-! SUPPORT. A whole run of the APU with the master on, said once (spec/60_exceptions.md R330, R334, R348, R350): what it
leaves in each voice, and the calls it makes. Claims about such a run follow from `apuRun_on_apu`, `mixed_apu` and
`apuRun_on_sink`. -/

namespace Sys2Proof.Machine

/-- `u` has canonical memory, and every handle of `s` but NR52: what the runs of the voices keep. -/
def State.sameSound (s u : State) : Prop :=
  u.memOk ∧ ∀ a, a ≠ ioNR52 → handleValue u a = handleValue s a ∧ handleVersion u a = handleVersion s a

theorem sameSound_refl {s : State} (h : s.memOk) : s.sameSound s := ⟨h, fun _ _ => ⟨rfl, rfl⟩⟩

/-- A bit write to NR52 keeps every other handle. -/
theorem sameSound_bitWrite {s u : State} (i : Nat) (b : Bool) (h : s.sameSound u) :
    s.sameSound (handleBitWrite u ioNR52 i b) := by
  refine ⟨handleWrite_memOk h.1 rfl, fun a ha => ?_⟩
  unfold handleBitWrite
  rw [handleValue_handleWrite h.1, handleVersion_handleWrite h.1, if_neg ha, if_neg ha]
  exact h.2 a ha

/-- Handles are in memory and versions alone. -/
theorem sameSound_congr {s u w : State} (h : s.sameSound u) (hm : w.mem = u.mem) (hv : w.versions = u.versions) :
    s.sameSound w := by
  simpa only [State.sameSound, State.memOk, handleVersion, handleValue, hm, hv] using h

theorem runPulseA_sameSound {s u : State} (P : Config.Params) (dt : Rat) (h : s.sameSound u) :
    s.sameSound (runPulseA P dt u) := sameSound_bitWrite _ _ (sameSound_congr h rfl rfl)

theorem runPulseB_sameSound {s u : State} (dt : Rat) (h : s.sameSound u) : s.sameSound (runPulseB dt u) :=
  sameSound_bitWrite _ _ (sameSound_congr h rfl rfl)

theorem runWave_sameSound {s u : State} (P : Config.Params) (dt : Rat) (h : s.sameSound u) :
    s.sameSound (runWave P dt u) := sameSound_bitWrite _ _ (sameSound_congr h rfl rfl)

theorem runNoise_sameSound {s u : State} (P : Config.Params) (dt : Rat) (h : s.sameSound u) :
    s.sameSound (runNoise P dt u) := sameSound_bitWrite _ _ (sameSound_congr h rfl rfl)

theorem sameSound_freqBits {s u : State} (h : s.sameSound u) {lo hi : Word} (hl : lo ≠ ioNR52) (hh : hi ≠ ioNR52) :
    freqBits u lo hi = freqBits s lo hi := by
  unfold freqBits
  rw [(h.2 lo hl).1, (h.2 hi hh).1]

theorem sameSound_sweepPackOf {s u : State} (P : Config.Params) (h : s.sameSound u) :
    sweepPackOf P u = sweepPackOf P s := by
  unfold sweepPackOf
  rw [sameSound_freqBits h (by decide) (by decide), (h.2 ioNR10 (by decide)).1]

/-- A voice's run depends on its own registers and its own state alone (R334). -/
theorem runPulseA_congr {s u : State} (P : Config.Params) (dt : Rat) (h : s.sameSound u)
    (hu : u.apu.pulseA = s.apu.pulseA) : (runPulseA P dt u).apu.pulseA = (runPulseA P dt s).apu.pulseA := by
  simp only [runPulseA, handleBitWrite_apu]
  rw [hu, sameSound_sweepPackOf P h, (h.2 ioNR11 (by decide)).1, (h.2 ioNR12 (by decide)).1, (h.2 ioNR14 (by decide)).1]

theorem runPulseB_congr {s u : State} (dt : Rat) (h : s.sameSound u) (hu : u.apu.pulseB = s.apu.pulseB) :
    (runPulseB dt u).apu.pulseB = (runPulseB dt s).apu.pulseB := by
  simp only [runPulseB, handleBitWrite_apu]
  rw [hu, sameSound_freqBits h (by decide) (by decide), (h.2 ioNR21 (by decide)).1, (h.2 ioNR22 (by decide)).1,
    (h.2 ioNR24 (by decide)).1]

theorem runWave_congr {s u : State} (P : Config.Params) (dt : Rat) (h : s.sameSound u)
    (hu : u.apu.wave = s.apu.wave) : (runWave P dt u).apu.wave = (runWave P dt s).apu.wave := by
  simp only [runWave, handleBitWrite_apu]
  rw [hu, sameSound_freqBits h (by decide) (by decide), (h.2 ioNR30 (by decide)).1, (h.2 ioNR31 (by decide)).1,
    (h.2 ioNR34 (by decide)).1]

theorem runNoise_congr {s u : State} (P : Config.Params) (dt : Rat) (h : s.sameSound u)
    (hu : u.apu.noise = s.apu.noise) : (runNoise P dt u).apu.noise = (runNoise P dt s).apu.noise := by
  simp only [runNoise, handleBitWrite_apu]
  rw [hu, (h.2 ioNR41 (by decide)).1, (h.2 ioNR42 (by decide)).1, (h.2 ioNR43 (by decide)).1, (h.2 ioNR44 (by decide)).1]

@[simp] theorem runPulseA_sink (P : Config.Params) (dt : Rat) (s : State) : (runPulseA P dt s).sink = s.sink := rfl

@[simp] theorem runPulseB_sink (dt : Rat) (s : State) : (runPulseB dt s).sink = s.sink := rfl

@[simp] theorem runWave_sink (P : Config.Params) (dt : Rat) (s : State) : (runWave P dt s).sink = s.sink := rfl

@[simp] theorem runNoise_sink (P : Config.Params) (dt : Rat) (s : State) : (runNoise P dt s).sink = s.sink := rfl

@[simp] theorem route_mem (s : State) : (route s).mem = s.mem := rfl

@[simp] theorem route_versions (s : State) : (route s).versions = s.versions := rfl

@[simp] theorem route_sink (s : State) : (route s).sink = s.sink := rfl

/-- A voice's run changes its own part of the APU. -/
theorem runPulseA_apu (P : Config.Params) (dt : Rat) (s : State) :
    (runPulseA P dt s).apu = { s.apu with pulseA := (runPulseA P dt s).apu.pulseA } := rfl

theorem runPulseB_apu (dt : Rat) (s : State) :
    (runPulseB dt s).apu = { s.apu with pulseB := (runPulseB dt s).apu.pulseB } := rfl

theorem runWave_apu (P : Config.Params) (dt : Rat) (s : State) :
    (runWave P dt s).apu = { s.apu with wave := (runWave P dt s).apu.wave } := rfl

theorem runNoise_apu (P : Config.Params) (dt : Rat) (s : State) :
    (runNoise P dt s).apu = { s.apu with noise := (runNoise P dt s).apu.noise } := rfl

/-- The four runs of a run with the master on (R330). -/
def voicesRun (P : Config.Params) (dt : Rat) (s : State) : State :=
  runNoise P dt (runWave P dt (runPulseB dt (runPulseA P dt (setMasterPrev true s))))

theorem voicesRun_sameSound {s : State} (P : Config.Params) (dt : Rat) (h : s.memOk) : s.sameSound (voicesRun P dt s) :=
  runNoise_sameSound P dt (runWave_sameSound P dt (runPulseB_sameSound dt (runPulseA_sameSound P dt
    (sameSound_congr (sameSound_refl h) rfl rfl))))

@[simp] theorem voicesRun_sink (P : Config.Params) (dt : Rat) (s : State) : (voicesRun P dt s).sink = s.sink := by
  unfold voicesRun
  rw [runNoise_sink, runWave_sink, runPulseB_sink, runPulseA_sink]
  rfl

/-- What the four runs leave in the APU: each voice as if it ran alone. -/
theorem voicesRun_apu {s : State} (P : Config.Params) (dt : Rat) (h : s.memOk) :
    (voicesRun P dt s).apu =
      { masterPrev := true, waveKey := s.apu.waveKey, pulseA := (runPulseA P dt s).apu.pulseA,
        pulseB := (runPulseB dt s).apu.pulseB, wave := (runWave P dt s).apu.wave,
        noise := (runNoise P dt s).apu.noise } := by
  have h0 : s.sameSound (setMasterPrev true s) := sameSound_congr (sameSound_refl h) rfl rfl
  have h1 := runPulseA_sameSound P dt h0
  have h2 := runPulseB_sameSound dt h1
  have h3 := runWave_sameSound P dt h2
  have a0 := runPulseA_congr P dt h0 rfl
  have a1 := runPulseB_congr dt h1 (by rw [runPulseA_apu]; rfl)
  have a2 := runWave_congr P dt h2 (by rw [runPulseB_apu, runPulseA_apu]; rfl)
  have a3 := runNoise_congr P dt h3 (by rw [runWave_apu, runPulseB_apu, runPulseA_apu]; rfl)
  unfold voicesRun
  rw [runNoise_apu, a3, runWave_apu, a2, runPulseB_apu, a1, runPulseA_apu, a0]
  rfl

@[simp] theorem emitRamps_mem (id : VoiceId) (v : Voice) (s : State) : (emitRamps id v s).mem = s.mem := rfl

@[simp] theorem emitRamps_versions (id : VoiceId) (v : Voice) (s : State) :
    (emitRamps id v s).versions = s.versions := rfl

/-- The ramps of a voice's update (R348). -/
def rampsOf (id : VoiceId) (v : Voice) : List SinkCall :=
  [.rampFrequency id v.frequency rampTime, .rampAmplitude id v.target rampTime, .rampPan id v.pan rampTime]

@[simp] theorem emitRamps_sink (id : VoiceId) (v : Voice) (s : State) :
    (emitRamps id v s).sink = s.sink ++ rampsOf id v := by
  simp [emitRamps, rampsOf]

/-- The memo key of the wavetable (R350). -/
def waveKeyOf (s : State) : Nat × BitVec 2 := (waveRamVersion s, (handleValue s ioNR32).extractLsb' 5 2)

/-- The table pushed (R350). -/
def waveTableOf (s : State) : List Rat :=
  (List.range 32).map (waveSample s ((handleValue s ioNR32).extractLsb' 5 2).toNat)

/-- The key and the table are read from memory and versions alone. -/
theorem waveKeyOf_congr {s u : State} (hm : u.mem = s.mem) (hv : u.versions = s.versions) :
    waveKeyOf u = waveKeyOf s := by
  simp only [waveKeyOf, waveRamVersion, handleVersion, handleValue, hm, hv]

theorem waveTableOf_congr {s u : State} (hm : u.mem = s.mem) : waveTableOf u = waveTableOf s := by
  have : waveSample u = waveSample s := by funext x j; simp only [waveSample, handleValue, hm]
  simp only [waveTableOf, this, handleValue, hm]

/-- All that `PushWavetable` can do (R350): the key is kept, and the table pushed if the key is new. -/
theorem pushWavetable_apu (s : State) : (pushWavetable s).apu = { s.apu with waveKey := some (waveKeyOf s) } := by
  unfold pushWavetable
  simp only
  split
  · rename_i hk
    rw [waveKeyOf, ← hk]
  · rfl

theorem pushWavetable_sink (s : State) : (pushWavetable s).sink =
    s.sink ++ if s.apu.waveKey = some (waveKeyOf s) then [] else [.setWavetable .wave (waveTableOf s)] := by
  unfold pushWavetable
  simp only
  split
  · rename_i hk
    rw [if_pos (show s.apu.waveKey = some (waveKeyOf s) from hk), List.append_nil]
  · rename_i hk
    rw [if_neg (show ¬ s.apu.waveKey = some (waveKeyOf s) from hk)]
    rfl

theorem pushWavetable_mem (s : State) : (pushWavetable s).mem = s.mem ∧ (pushWavetable s).versions = s.versions := by
  unfold pushWavetable
  simp only
  split <;> exact ⟨rfl, rfl⟩

theorem updateAll_apu (s : State) : (updateAll s).apu = { s.apu with waveKey := some (waveKeyOf s) } := by
  unfold updateAll
  rw [updateNoise_apu, updateWave_apu, pushWavetable_apu, updatePulseB_apu, updatePulseA_apu,
    waveKeyOf_congr (s := s) (by simp [updatePulseB, updatePulseA]) (by simp [updatePulseB, updatePulseA])]

theorem updateAll_mem (s : State) : (updateAll s).mem = s.mem ∧ (updateAll s).versions = s.versions := by
  simp [updateAll, updateNoise, updateWave, pushWavetable_mem, updatePulseB, updatePulseA]

/-- The calls of the four updates, in order (R348). -/
theorem updateAll_sink (s : State) : (updateAll s).sink = s.sink ++
    (.setPulseWidth .pulseA s.apu.pulseA.pulseWidth :: rampsOf .pulseA s.apu.pulseA.voice ++
      .setPulseWidth .pulseB s.apu.pulseB.pulseWidth :: rampsOf .pulseB s.apu.pulseB.voice ++
      (if s.apu.waveKey = some (waveKeyOf s) then [] else [.setWavetable .wave (waveTableOf s)]) ++
      rampsOf .wave s.apu.wave.voice ++ rampsOf .noise s.apu.noise.voice) := by
  have hm : (updatePulseB (updatePulseA s)).mem = s.mem := by simp [updatePulseB, updatePulseA]
  have hv : (updatePulseB (updatePulseA s)).versions = s.versions := by simp [updatePulseB, updatePulseA]
  unfold updateAll updateNoise updateWave
  simp only [emitRamps_sink, emitRamps_apu, pushWavetable_sink, pushWavetable_apu, waveKeyOf_congr hm hv,
    waveTableOf_congr hm, updatePulseB_apu, updatePulseA_apu]
  simp only [updatePulseB, updatePulseA, emitRamps_sink, emit_sink, emitRamps_apu, emit_apu, List.append_assoc,
    List.cons_append, List.nil_append]

/-- The voices of a run with the master on, run and routed (R330). -/
def mixed (P : Config.Params) (d : Rat) (s : State) : State := route (voicesRun P (d / 4194304) s)

theorem apuRun_on {P : Config.Params} {d : Rat} {s : State} (hm : (handleValue s ioNR52).getLsbD 7 = true) :
    apuRun P d s =
      masterVolume P (!P.masterVolumeFirst) (updateAll (masterVolume P P.masterVolumeFirst (mixed P d s))) := by
  unfold apuRun
  simp only
  rw [if_pos hm]
  rfl

theorem mixed_sameSound {P : Config.Params} {d : Rat} {s : State} (h : s.memOk) : s.sameSound (mixed P d s) :=
  sameSound_congr (voicesRun_sameSound P (d / 4194304) h) (route_mem _) (route_versions _)

theorem masterVolume_sameSound {s u : State} (P : Config.Params) (b : Bool) (h : s.sameSound u) :
    s.sameSound (masterVolume P b u) := sameSound_congr h (masterVolume_mem ..) (masterVolume_versions ..)

theorem updateAll_sameSound {s u : State} (h : s.sameSound u) : s.sameSound (updateAll u) :=
  sameSound_congr h (updateAll_mem u).1 (updateAll_mem u).2

/-- The wave key and the table, from wave RAM and NR32, which the runs of the voices leave (R350). -/
theorem sameSound_waveKeyOf {s u : State} (h : s.sameSound u) : waveKeyOf u = waveKeyOf s := by
  have hv : ∀ k, k ∈ List.range 16 → handleVersion u (ioWaveRam + BitVec.ofNat 16 k) =
      handleVersion s (ioWaveRam + BitVec.ofNat 16 k) := fun k hk =>
    (h.2 _ (by have := List.mem_range.1 hk; interval_cases k <;> decide)).2
  simp only [waveKeyOf, waveRamVersion, List.map_congr_left hv, (h.2 ioNR32 (by decide)).1]

theorem sameSound_waveTableOf {s u : State} (h : s.sameSound u) : waveTableOf u = waveTableOf s := by
  unfold waveTableOf
  rw [(h.2 ioNR32 (by decide)).1]
  refine List.map_congr_left fun j hj => ?_
  have hj := List.mem_range.1 hj
  have : handleValue u (ioWaveRam + BitVec.ofNat 16 (j / 2)) = handleValue s (ioWaveRam + BitVec.ofNat 16 (j / 2)) := by
    have h2 : j / 2 < 16 := by omega
    generalize j / 2 = k at h2
    exact (h.2 _ (by interval_cases k <;> decide)).1
  simp only [waveSample, this]

theorem mixed_apu {P : Config.Params} {d : Rat} {s : State} (h : s.memOk) :
    (mixed P d s).apu =
      { masterPrev := true
        waveKey := s.apu.waveKey
        pulseA := { (runPulseA P (d / 4194304) s).apu.pulseA with
          voice := (runPulseA P (d / 4194304) s).apu.pulseA.voice.route (handleValue s ioNR51) 0 }
        pulseB := { (runPulseB (d / 4194304) s).apu.pulseB with
          voice := (runPulseB (d / 4194304) s).apu.pulseB.voice.route (handleValue s ioNR51) 1 }
        wave := { (runWave P (d / 4194304) s).apu.wave with
          voice := (runWave P (d / 4194304) s).apu.wave.voice.route (handleValue s ioNR51) 2 }
        noise := { (runNoise P (d / 4194304) s).apu.noise with
          voice := (runNoise P (d / 4194304) s).apu.noise.voice.route (handleValue s ioNR51) 3 } } := by
  unfold mixed route
  simp only [voicesRun_apu P (d / 4194304) h, ((voicesRun_sameSound P (d / 4194304) h).2 ioNR51 (by decide)).1]

/-- All that a run with the master on leaves in the APU: each voice as if it ran alone, then routed, and the key of the
wavetable (R330, R334, R347, R350). -/
theorem apuRun_on_apu {P : Config.Params} {d : Rat} {s : State} (h : s.memOk)
    (hm : (handleValue s ioNR52).getLsbD 7 = true) :
    (apuRun P d s).apu = { (mixed P d s).apu with waveKey := some (waveKeyOf s) } := by
  rw [apuRun_on hm, masterVolume_apu, updateAll_apu, masterVolume_apu,
    sameSound_waveKeyOf (masterVolume_sameSound P _ (mixed_sameSound h))]

/-- The master-volume call of a run (R351). -/
def volumeCall (P : Config.Params) (s : State) : SinkCall :=
  .setMasterVolume (P.masterVolume (handleValue s ioNR50)).1 (P.masterVolume (handleValue s ioNR50)).2

/-- The output calls of a run with the master on, in order (R330, R348, R350, R351, R353). -/
theorem apuRun_on_sink {P : Config.Params} {d : Rat} {s : State} (h : s.memOk)
    (hm : (handleValue s ioNR52).getLsbD 7 = true) {u : Apu} (hu : (apuRun P d s).apu = u) :
    (apuRun P d s).sink = s.sink ++
      ((if P.masterVolumeFirst then [volumeCall P s] else []) ++
        .setPulseWidth .pulseA u.pulseA.pulseWidth :: rampsOf .pulseA u.pulseA.voice ++
        .setPulseWidth .pulseB u.pulseB.pulseWidth :: rampsOf .pulseB u.pulseB.voice ++
        (if s.apu.waveKey = some (waveKeyOf s) then [] else [.setWavetable .wave (waveTableOf s)]) ++
        rampsOf .wave u.wave.voice ++ rampsOf .noise u.noise.voice ++
        if P.masterVolumeFirst then [] else [volumeCall P s]) := by
  have h1 : s.sameSound (mixed P d s) := mixed_sameSound h
  have h2 := masterVolume_sameSound P P.masterVolumeFirst h1
  have hv : ∀ w, s.sameSound w → volumeCall P w = volumeCall P s := fun w hw => by
    unfold volumeCall
    rw [(hw.2 ioNR50 (by decide)).1]
  have hs : ∀ b w, (masterVolume P b w).sink = w.sink ++ if b then [volumeCall P w] else [] := fun _ _ => rfl
  have hm0 : (mixed P d s).sink = s.sink := by rw [mixed, route_sink, voicesRun_sink]
  have hw : (mixed P d s).apu.waveKey = s.apu.waveKey := by rw [mixed_apu h]
  rw [← hu, apuRun_on_apu h hm, apuRun_on hm, hs, updateAll_sink, hs, masterVolume_apu, hv _ h1,
    hv _ (updateAll_sameSound h2), sameSound_waveKeyOf h2, sameSound_waveTableOf h2, hw, hm0]
  cases P.masterVolumeFirst <;>
    simp only [Bool.not_true, Bool.not_false, Bool.false_eq_true, if_true, if_false, List.append_assoc, List.cons_append,
      List.nil_append, List.append_nil]

end Sys2Proof.Machine
end

