-- ==== Sys2Proof/Laws/Meaning.lean ====
section
/-! SUPPORT. What each shared operation of the instruction families can do, said once: if it answers a next state, then
this. Later proofs cite these and do not unfold the operations. -/

namespace Sys2Proof.Machine

/-! ### Loads and stores (spec/40_load8.md, spec/41_load16.md) -/

theorem loadReg_next {dst src : Reg8} {s t : State} (h : loadReg dst src s = .next t) :
    t = { s.setReg dst (s.getReg src) with cycles := 1 } := finish_next h

theorem loadMem_next {dst : Reg8} {a : Word} {m : Nat} {s t : State} (h : loadMem dst a m s = .next t) :
    ∃ v, memRead s a = .ok v ∧ t = { s.setReg dst v with cycles := m } := by
  obtain ⟨v, hv, h⟩ := andThen_next h
  exact ⟨v, hv, finish_next h⟩

theorem storeByte_next {a : Word} {v : Byte} {m : Nat} {s t : State} (h : storeByte a v m s = .next t) :
    ∃ s1, memWrite s a v = .ok s1 ∧ t = { s1 with cycles := m } := by
  obtain ⟨s1, h1, h⟩ := andThen_next h
  exact ⟨s1, h1, finish_next h⟩

theorem storeMovingHL_next {step : Word} {s t : State} (h : storeMovingHL step s = .next t) :
    ∃ s1, memWrite s s.hl s.a = .ok s1 ∧ t = { s1.setPair .hl (s1.hl + step) with cycles := 2 } := by
  obtain ⟨s1, h1, h⟩ := andThen_next h
  exact ⟨s1, h1, finish_next h⟩

theorem loadMovingHL_next {step : Word} {s t : State} (h : loadMovingHL step s = .next t) :
    ∃ v, memRead s s.hl = .ok v ∧
      t = { ({ s with a := v } : State).setPair .hl (s.hl + step) with cycles := 2 } := by
  obtain ⟨v, hv, h⟩ := andThen_next h
  exact ⟨v, hv, finish_next h⟩

theorem storeSp_next {a : Word} {s t : State} (h : storeSp a s = .next t) :
    ∃ s1, memWrite16 s a s.sp = .ok s1 ∧ t = { s1 with cycles := 5 } := by
  obtain ⟨s1, h1, h⟩ := andThen_next h
  exact ⟨s1, h1, finish_next h⟩

theorem loadHlSp_next {e : Byte} {s t : State} (h : loadHlSp e s = .next t) :
    t = { (s.setPair .hl (spadd s.sp e).value).setFlags false false (spadd s.sp e).h (spadd s.sp e).c with
      cycles := 3 } := finish_next h

theorem pushPair_next {p : StackPair} {s t : State} (h : pushPair p s = .next t) :
    ∃ s1, push16 s (s.getStackPair p) = .ok s1 ∧ t = { s1 with cycles := 4 } := by
  obtain ⟨s1, h1, h⟩ := andThen_next h
  exact ⟨s1, h1, finish_next h⟩

theorem popPair_next {p : StackPair} {s t : State} (h : popPair p s = .next t) :
    ∃ w, memRead16 s s.sp = .ok w ∧
      t = { ({ s with sp := s.sp + 2#16 } : State).setStackPair p w with cycles := 3 } := by
  obtain ⟨r, h1, h⟩ := andThen_next h
  obtain ⟨hw, hs⟩ := pop16_ok h1
  exact ⟨r.1, hw, by rw [finish_next h, hs]⟩

/-! ### Arithmetic and logic (spec/42_alu8.md, spec/43_alu16.md) -/

theorem aluByte_next {op : AluOp} {v : Byte} {m : Nat} {s t : State} (h : aluByte op v m s = .next t) :
    t = { aluApply op v s with cycles := m } := finish_next h

theorem aluMem_next {op : AluOp} {s t : State} (h : aluMem op s = .next t) :
    ∃ v, memRead s s.hl = .ok v ∧ t = { aluApply op v s with cycles := 2 } := by
  obtain ⟨v, hv, h⟩ := andThen_next h
  exact ⟨v, hv, finish_next h⟩

theorem incReg_next {r : Reg8} {s t : State} (h : incReg r s = .next t) :
    t = { (s.setReg r (inc8 (s.getReg r)).value).setFlags (inc8 (s.getReg r)).z (inc8 (s.getReg r)).n
      (inc8 (s.getReg r)).h s.flagC with cycles := 1 } := finish_next h

theorem decReg_next {r : Reg8} {s t : State} (h : decReg r s = .next t) :
    t = { (s.setReg r (dec8 (s.getReg r)).value).setFlags (dec8 (s.getReg r)).z (dec8 (s.getReg r)).n
      (dec8 (s.getReg r)).h s.flagC with cycles := 1 } := finish_next h

theorem incMem_next {s t : State} (h : incMem s = .next t) :
    ∃ v s1, memRead s s.hl = .ok v ∧ memWrite s s.hl (inc8 v).value = .ok s1 ∧
      t = { s1.setFlags (inc8 v).z (inc8 v).n (inc8 v).h s1.flagC with cycles := 3 } := by
  obtain ⟨v, hv, h⟩ := andThen_next h
  obtain ⟨s1, h1, h⟩ := andThen_next h
  exact ⟨v, s1, hv, h1, finish_next h⟩

theorem decMem_next {s t : State} (h : decMem s = .next t) :
    ∃ v s1, memRead s s.hl = .ok v ∧ memWrite s s.hl (dec8 v).value = .ok s1 ∧
      t = { s1.setFlags (dec8 v).z (dec8 v).n (dec8 v).h s1.flagC with cycles := 3 } := by
  obtain ⟨v, hv, h⟩ := andThen_next h
  obtain ⟨s1, h1, h⟩ := andThen_next h
  exact ⟨v, s1, hv, h1, finish_next h⟩

theorem decimalAdjust_next {s t : State} (h : decimalAdjust s = .next t) :
    t = { ({ s with a := (daa8 s.a s.flagN s.flagH s.flagC).value } : State).setFlags
      (decide ((daa8 s.a s.flagN s.flagH s.flagC).value = 0#8)) s.flagN false
      (daa8 s.a s.flagN s.flagH s.flagC).c with cycles := 1 } := finish_next h

theorem complementA_next {s t : State} (h : complementA s = .next t) :
    t = { ({ s with a := s.a ^^^ 0xFF#8 } : State).setFlags s.flagZ true true s.flagC with cycles := 1 } :=
  finish_next h

theorem setCarry_next {s t : State} (h : setCarry s = .next t) :
    t = { s.setFlags s.flagZ false false true with cycles := 1 } := finish_next h

theorem complementCarry_next {s t : State} (h : complementCarry s = .next t) :
    t = { s.setFlags s.flagZ false false (!s.flagC) with cycles := 1 } := finish_next h

theorem addHl_next {w : Word} {s t : State} (h : addHl w s = .next t) :
    t = { (s.setPair .hl (add16 s.hl w).value).setFlags s.flagZ (add16 s.hl w).n (add16 s.hl w).h
      (add16 s.hl w).c with cycles := 2 } := finish_next h

theorem addSp_next {e : Byte} {s t : State} (h : addSp e s = .next t) :
    t = { ({ s with sp := (spadd s.sp e).value } : State).setFlags false false (spadd s.sp e).h
      (spadd s.sp e).c with cycles := 4 } := finish_next h

/-! ### Rotates and bits (spec/44_rotate_shift.md, spec/45_bit.md) -/

theorem rotateA_next {op : RotOp} {s t : State} (h : rotateA op s = .next t) :
    t = { ({ s with a := (rotResult op s.a s.flagC).value } : State).setFlags false false false
      (rotResult op s.a s.flagC).c with cycles := 1 } := finish_next h

theorem rotateOperand_next {op : RotOp} {o : Operand8} {m : Nat} {s t : State}
    (h : rotateOperand op o m s = .next t) :
    ∃ v s1, readOperand s o = .ok v ∧ writeOperand s o (rotResult op v s.flagC).value = .ok s1 ∧
      t = { s1.setFlags (decide ((rotResult op v s.flagC).value = 0#8)) false false
        (rotResult op v s.flagC).c with cycles := m } := by
  obtain ⟨v, hv, h⟩ := andThen_next h
  obtain ⟨s1, h1, h⟩ := andThen_next h
  exact ⟨v, s1, hv, h1, finish_next h⟩

theorem testBit_next {b : BitVec 3} {o : Operand8} {m : Nat} {s t : State} (h : testBit b o m s = .next t) :
    ∃ v, readOperand s o = .ok v ∧
      t = { s.setFlags (!v.getLsbD b.toNat) false true s.flagC with cycles := m } := by
  obtain ⟨v, hv, h⟩ := andThen_next h
  exact ⟨v, hv, finish_next h⟩

theorem resetBit_next {b : BitVec 3} {o : Operand8} {m : Nat} {s t : State} (h : resetBit b o m s = .next t) :
    ∃ v s1, readOperand s o = .ok v ∧ writeOperand s o (v &&& ~~~(bitMask b)) = .ok s1 ∧
      t = { s1 with cycles := m } := by
  obtain ⟨v, hv, h⟩ := andThen_next h
  obtain ⟨s1, h1, h⟩ := andThen_next h
  exact ⟨v, s1, hv, h1, finish_next h⟩

theorem setBit_next {b : BitVec 3} {o : Operand8} {m : Nat} {s t : State} (h : setBit b o m s = .next t) :
    ∃ v s1, readOperand s o = .ok v ∧ writeOperand s o (v ||| bitMask b) = .ok s1 ∧ t = { s1 with cycles := m } := by
  obtain ⟨v, hv, h⟩ := andThen_next h
  obtain ⟨s1, h1, h⟩ := andThen_next h
  exact ⟨v, s1, hv, h1, finish_next h⟩

/-! ### Control transfer (spec/46_control.md) -/

theorem jumpIf_next {cc : Cond} {a : Word} {s t : State} (h : jumpIf cc a s = .next t) :
    (s.cond cc = true ∧ t = { s with pc := a, cycles := 4 }) ∨ (s.cond cc = false ∧ t = { s with cycles := 3 }) := by
  unfold jumpIf at h
  split at h
  · exact .inl ⟨by assumption, finish_next h⟩
  · exact .inr ⟨by simp_all, finish_next h⟩

theorem jumpRelIf_next {cc : Cond} {e : Byte} {s t : State} (h : jumpRelIf cc e s = .next t) :
    (s.cond cc = true ∧ t = { s with pc := s.pc + sext16 e, cycles := 3 }) ∨
      (s.cond cc = false ∧ t = { s with cycles := 2 }) := by
  unfold jumpRelIf at h
  split at h
  · exact .inl ⟨by assumption, finish_next h⟩
  · exact .inr ⟨by simp_all, finish_next h⟩

theorem callTo_next {a : Word} {m : Nat} {s t : State} (h : callTo a m s = .next t) :
    ∃ s1, push16 s s.pc = .ok s1 ∧ t = { s1 with pc := a, cycles := m } := by
  obtain ⟨s1, h1, h⟩ := andThen_next h
  exact ⟨s1, h1, finish_next h⟩

theorem callIf_next {cc : Cond} {a : Word} {s t : State} (h : callIf cc a s = .next t) :
    (s.cond cc = true ∧ ∃ s1, push16 s s.pc = .ok s1 ∧ t = { s1 with pc := a, cycles := 6 }) ∨
      (s.cond cc = false ∧ t = { s with cycles := 3 }) := by
  unfold callIf at h
  split at h
  · exact .inl ⟨by assumption, callTo_next h⟩
  · exact .inr ⟨by simp_all, finish_next h⟩

theorem returnIf_next {cc : Cond} {s t : State} (h : returnIf cc s = .next t) :
    (s.cond cc = true ∧ ∃ w, memRead16 s s.sp = .ok w ∧ t = { s with sp := s.sp + 2#16, pc := w, cycles := 5 }) ∨
      (s.cond cc = false ∧ t = { s with cycles := 2 }) := by
  unfold returnIf at h
  split at h
  · obtain ⟨w, hw, ht⟩ := returnFrom_next h
    exact .inl ⟨by assumption, w, hw, by simpa using ht⟩
  · exact .inr ⟨by simp_all, finish_next h⟩

/-! ### The CB entry (spec/30_encoding.md R84, R89) -/

/-- A CB entry is one of the four operations on its operand. -/
theorem cbEntry_next {o : Byte} {s t : State} (h : cbEntry o s = .next t) :
    ∃ operand m, (∃ op, rotateOperand op operand m s = .next t) ∨ (∃ b, testBit b operand m s = .next t) ∨
      (∃ b, resetBit b operand m s = .next t) ∨ ∃ b, setBit b operand m s = .next t := by
  refine ⟨operandOfIndex (o.extractLsb' 0 3), ?_⟩
  unfold cbEntry at h
  simp only at h
  split at h
  · exact ⟨_, .inl ⟨_, h⟩⟩
  · exact ⟨_, .inr (.inl ⟨_, h⟩)⟩
  · exact ⟨_, .inr (.inr (.inl ⟨_, h⟩))⟩
  · exact ⟨_, .inr (.inr (.inr ⟨_, h⟩))⟩

end Sys2Proof.Machine
end

