-- ==== Sys2Proof/Laws/Effect.lean ====
section
/-! SUPPORT. What every instruction's effect leaves alone, one lemma per shared operation: memory evolves, F keeps its low
nibble at 0, and nothing outside the CPU and the bus changes. -/

namespace Sys2Proof.Machine

/-- What every operation of the CPU keeps. -/
def State.effect (s t : State) : Prop :=
  (s.memOk → s.evolves t) ∧ (s.flagsOk → t.flagsOk) ∧ s.sameOutsideCpu t

theorem effect_refl (s : State) : s.effect s :=
  ⟨evolves_refl, id, rfl, rfl, rfl, rfl, rfl, rfl⟩

theorem effect_trans {s t u : State} (h1 : s.effect t) (h2 : t.effect u) : s.effect u := by
  obtain ⟨e1, f1, a1, b1, c1, d1, x1, y1⟩ := h1
  obtain ⟨e2, f2, a2, b2, c2, d2, x2, y2⟩ := h2
  exact ⟨fun h => evolves_trans (e1 h) (e2 (e1 h).1), f2 ∘ f1, a2.trans a1, b2.trans b1, c2.trans c1, d2.trans d1,
    x2.trans x1, y2.trans y1⟩

/-- An update of registers and control state after an effect. -/
theorem effect_congr {s t u : State} (h : s.effect t) (hm : u.mem = t.mem) (hv : u.versions = t.versions)
    (hf : t.flagsOk → u.flagsOk) (ho : t.sameOutsideCpu u) : s.effect u :=
  effect_trans h ⟨fun h => evolves_congr (evolves_refl h) hm hv, hf, ho⟩

/-- Effect, control state and PC of an operation that moves none of the latter two. -/
def State.plainEffect (s t : State) : Prop := s.effect t ∧ s.sameControl t ∧ t.pc = s.pc

theorem plainEffect_refl (s : State) : s.plainEffect s := ⟨effect_refl s, ⟨rfl, rfl, rfl, rfl, rfl⟩, rfl⟩

theorem plainEffect_trans {s t u : State} (h1 : s.plainEffect t) (h2 : t.plainEffect u) : s.plainEffect u := by
  obtain ⟨e1, ⟨a1, b1, c1, d1, f1⟩, p1⟩ := h1
  obtain ⟨e2, ⟨a2, b2, c2, d2, f2⟩, p2⟩ := h2
  exact ⟨effect_trans e1 e2, ⟨a2.trans a1, b2.trans b1, c2.trans c1, d2.trans d1, f2.trans f1⟩, p2.trans p1⟩

/-! ### Register updates -/

theorem setReg_plain (s : State) (r : Reg8) (v : Byte) : s.plainEffect (s.setReg r v) := by
  cases r <;> exact ⟨effect_congr (effect_refl s) rfl rfl id ⟨rfl, rfl, rfl, rfl, rfl, rfl⟩, ⟨rfl, rfl, rfl, rfl, rfl⟩, rfl⟩

theorem setPair_plain (s : State) (p : Pair) (w : Word) : s.plainEffect (s.setPair p w) := by
  cases p <;> exact ⟨effect_congr (effect_refl s) rfl rfl id ⟨rfl, rfl, rfl, rfl, rfl, rfl⟩, ⟨rfl, rfl, rfl, rfl, rfl⟩, rfl⟩

theorem setFlags_flagsOk (s : State) (z n h c : Bool) : (s.setFlags z n h c).flagsOk := by
  change flagByte z n h c &&& 0x0F#8 = 0#8
  revert z n h c; decide

theorem setFlags_plain (s : State) (z n h c : Bool) : s.plainEffect (s.setFlags z n h c) :=
  ⟨effect_congr (effect_refl s) rfl rfl (fun _ => setFlags_flagsOk ..) ⟨rfl, rfl, rfl, rfl, rfl, rfl⟩,
    ⟨rfl, rfl, rfl, rfl, rfl⟩, rfl⟩

theorem setStackPair_plain (s : State) (p : StackPair) (w : Word) : s.plainEffect (s.setStackPair p w) := by
  cases p
  case af =>
    refine ⟨effect_congr (effect_refl s) rfl rfl (fun _ => ?_) ⟨rfl, rfl, rfl, rfl, rfl, rfl⟩,
      ⟨rfl, rfl, rfl, rfl, rfl⟩, rfl⟩
    simp only [State.flagsOk, State.setStackPair]
    rw [BitVec.and_assoc]
    exact BitVec.and_zero
  all_goals
    exact ⟨effect_congr (effect_refl s) rfl rfl id ⟨rfl, rfl, rfl, rfl, rfl, rfl⟩, ⟨rfl, rfl, rfl, rfl, rfl⟩, rfl⟩

theorem setA_plain (s : State) (v : Byte) : s.plainEffect { s with a := v } := setReg_plain s .a v

theorem setSp_plain (s : State) (w : Word) : s.plainEffect { s with sp := w } := setPair_plain s .sp w

theorem setCycles_plain (s : State) (m : Nat) : s.plainEffect { s with cycles := m } :=
  ⟨effect_congr (effect_refl s) rfl rfl id ⟨rfl, rfl, rfl, rfl, rfl, rfl⟩, ⟨rfl, rfl, rfl, rfl, rfl⟩, rfl⟩

/-- A change of PC, IME, the latch, halted, stopped, arm and cycles is an effect, though no plain one. -/
theorem setControl_effect (s : State) (pc : Word) (ime ei ha st ar : Bool) (m : Nat) :
    s.effect { s with pc := pc, ime := ime, eiDelay := ei, halted := ha, stopped := st, arm := ar, cycles := m } :=
  effect_congr (effect_refl s) rfl rfl id ⟨rfl, rfl, rfl, rfl, rfl, rfl⟩

/-! ### Bus accesses -/

theorem memWrite_plain {s t : State} {a : Word} {v : Byte} (h : memWrite s a v = .ok t) : s.plainEffect t := by
  have hf := memWrite_frame h
  have he := memWrite_evolves h
  unfold State.sameButBus at hf
  rw [hf] at he ⊢
  exact ⟨⟨he, id, rfl, rfl, rfl, rfl, rfl, rfl⟩, ⟨rfl, rfl, rfl, rfl, rfl⟩, rfl⟩

theorem memWrite16_plain {s t : State} {a w : Word} (h : memWrite16 s a w = .ok t) : s.plainEffect t := by
  obtain ⟨s1, h1, h2⟩ := memWrite16_ok h
  exact plainEffect_trans (memWrite_plain h1) (memWrite_plain h2)

theorem push16_plain {s t : State} {w : Word} (h : push16 s w = .ok t) : s.plainEffect t :=
  plainEffect_trans (setSp_plain s _) (memWrite16_plain h)

theorem writeOperand_plain {s t : State} {o : Operand8} {v : Byte} (h : writeOperand s o v = .ok t) :
    s.plainEffect t := by
  rcases writeOperand_frame h with ⟨r, -, rfl⟩ | ⟨-, hw⟩
  · exact setReg_plain ..
  · exact memWrite_plain hw

/-! ### The families -/

theorem finish_plain {s u t : State} {m : Nat} (h : finish m u = .next t) (hu : s.plainEffect u) : s.plainEffect t :=
  finish_next h ▸ plainEffect_trans hu (setCycles_plain ..)

theorem loadReg_plain {dst src : Reg8} {s t : State} (h : loadReg dst src s = .next t) : s.plainEffect t :=
  finish_plain h (setReg_plain ..)

theorem loadMem_plain {dst : Reg8} {a : Word} {m : Nat} {s t : State} (h : loadMem dst a m s = .next t) :
    s.plainEffect t := by
  obtain ⟨v, -, rfl⟩ := loadMem_next h
  exact plainEffect_trans (setReg_plain ..) (setCycles_plain ..)

theorem storeByte_plain {a : Word} {v : Byte} {m : Nat} {s t : State} (h : storeByte a v m s = .next t) :
    s.plainEffect t := by
  obtain ⟨s1, h1, rfl⟩ := storeByte_next h
  exact plainEffect_trans (memWrite_plain h1) (setCycles_plain ..)

theorem storeMovingHL_plain {step : Word} {s t : State} (h : storeMovingHL step s = .next t) : s.plainEffect t := by
  obtain ⟨s1, h1, rfl⟩ := storeMovingHL_next h
  exact plainEffect_trans (plainEffect_trans (memWrite_plain h1) (setPair_plain ..)) (setCycles_plain ..)

theorem loadMovingHL_plain {step : Word} {s t : State} (h : loadMovingHL step s = .next t) : s.plainEffect t := by
  obtain ⟨v, -, rfl⟩ := loadMovingHL_next h
  exact plainEffect_trans (plainEffect_trans (setA_plain ..) (setPair_plain ..)) (setCycles_plain ..)

theorem storeSp_plain {a : Word} {s t : State} (h : storeSp a s = .next t) : s.plainEffect t := by
  obtain ⟨s1, h1, rfl⟩ := storeSp_next h
  exact plainEffect_trans (memWrite16_plain h1) (setCycles_plain ..)

theorem loadHlSp_plain {e : Byte} {s t : State} (h : loadHlSp e s = .next t) : s.plainEffect t :=
  finish_plain h (plainEffect_trans (setPair_plain ..) (setFlags_plain ..))

theorem pushPair_plain {p : StackPair} {s t : State} (h : pushPair p s = .next t) : s.plainEffect t := by
  obtain ⟨s1, h1, rfl⟩ := pushPair_next h
  exact plainEffect_trans (push16_plain h1) (setCycles_plain ..)

theorem popPair_plain {p : StackPair} {s t : State} (h : popPair p s = .next t) : s.plainEffect t := by
  obtain ⟨w, -, rfl⟩ := popPair_next h
  exact plainEffect_trans (plainEffect_trans (setSp_plain ..) (setStackPair_plain ..)) (setCycles_plain ..)

theorem aluApply_plain (op : AluOp) (v : Byte) (s : State) : s.plainEffect (aluApply op v s) := by
  unfold aluApply
  simp only
  split
  · exact setFlags_plain ..
  · exact plainEffect_trans (setA_plain ..) (setFlags_plain ..)

theorem aluByte_plain {op : AluOp} {v : Byte} {m : Nat} {s t : State} (h : aluByte op v m s = .next t) :
    s.plainEffect t := finish_plain h (aluApply_plain ..)

theorem aluMem_plain {op : AluOp} {s t : State} (h : aluMem op s = .next t) : s.plainEffect t := by
  obtain ⟨v, -, rfl⟩ := aluMem_next h
  exact plainEffect_trans (aluApply_plain ..) (setCycles_plain ..)

theorem incReg_plain {r : Reg8} {s t : State} (h : incReg r s = .next t) : s.plainEffect t :=
  finish_plain h (plainEffect_trans (setReg_plain ..) (setFlags_plain ..))

theorem decReg_plain {r : Reg8} {s t : State} (h : decReg r s = .next t) : s.plainEffect t :=
  finish_plain h (plainEffect_trans (setReg_plain ..) (setFlags_plain ..))

theorem incMem_plain {s t : State} (h : incMem s = .next t) : s.plainEffect t := by
  obtain ⟨v, s1, -, h1, rfl⟩ := incMem_next h
  exact plainEffect_trans (plainEffect_trans (memWrite_plain h1) (setFlags_plain ..)) (setCycles_plain ..)

theorem decMem_plain {s t : State} (h : decMem s = .next t) : s.plainEffect t := by
  obtain ⟨v, s1, -, h1, rfl⟩ := decMem_next h
  exact plainEffect_trans (plainEffect_trans (memWrite_plain h1) (setFlags_plain ..)) (setCycles_plain ..)

theorem decimalAdjust_plain {s t : State} (h : decimalAdjust s = .next t) : s.plainEffect t :=
  finish_plain h (plainEffect_trans (setA_plain ..) (setFlags_plain ..))

theorem complementA_plain {s t : State} (h : complementA s = .next t) : s.plainEffect t :=
  finish_plain h (plainEffect_trans (setA_plain ..) (setFlags_plain ..))

theorem setCarry_plain {s t : State} (h : setCarry s = .next t) : s.plainEffect t := finish_plain h (setFlags_plain ..)

theorem complementCarry_plain {s t : State} (h : complementCarry s = .next t) : s.plainEffect t :=
  finish_plain h (setFlags_plain ..)

theorem addHl_plain {w : Word} {s t : State} (h : addHl w s = .next t) : s.plainEffect t :=
  finish_plain h (plainEffect_trans (setPair_plain ..) (setFlags_plain ..))

theorem addSp_plain {e : Byte} {s t : State} (h : addSp e s = .next t) : s.plainEffect t :=
  finish_plain h (plainEffect_trans (setSp_plain ..) (setFlags_plain ..))

theorem rotateA_plain {op : RotOp} {s t : State} (h : rotateA op s = .next t) : s.plainEffect t :=
  finish_plain h (plainEffect_trans (setA_plain ..) (setFlags_plain ..))

theorem rotateOperand_plain {op : RotOp} {o : Operand8} {m : Nat} {s t : State} (h : rotateOperand op o m s = .next t) :
    s.plainEffect t := by
  obtain ⟨v, s1, -, h1, rfl⟩ := rotateOperand_next h
  exact plainEffect_trans (plainEffect_trans (writeOperand_plain h1) (setFlags_plain ..)) (setCycles_plain ..)

theorem testBit_plain {b : BitVec 3} {o : Operand8} {m : Nat} {s t : State} (h : testBit b o m s = .next t) :
    s.plainEffect t := by
  obtain ⟨v, -, rfl⟩ := testBit_next h
  exact plainEffect_trans (setFlags_plain ..) (setCycles_plain ..)

theorem resetBit_plain {b : BitVec 3} {o : Operand8} {m : Nat} {s t : State} (h : resetBit b o m s = .next t) :
    s.plainEffect t := by
  obtain ⟨v, s1, -, h1, rfl⟩ := resetBit_next h
  exact plainEffect_trans (writeOperand_plain h1) (setCycles_plain ..)

theorem setBit_plain {b : BitVec 3} {o : Operand8} {m : Nat} {s t : State} (h : setBit b o m s = .next t) :
    s.plainEffect t := by
  obtain ⟨v, s1, -, h1, rfl⟩ := setBit_next h
  exact plainEffect_trans (writeOperand_plain h1) (setCycles_plain ..)

theorem cbEntry_plain {o : Byte} {s t : State} (h : cbEntry o s = .next t) : s.plainEffect t := by
  obtain ⟨_, _, ⟨_, h⟩ | ⟨_, h⟩ | ⟨_, h⟩ | ⟨_, h⟩⟩ := cbEntry_next h
  · exact rotateOperand_plain h
  · exact testBit_plain h
  · exact resetBit_plain h
  · exact setBit_plain h

/-! ### Control transfers: an effect that keeps the control state -/

theorem jumpTo_effect (s : State) (a : Word) (m : Nat) :
    s.effect { s with pc := a, cycles := m } ∧ s.sameControl { s with pc := a, cycles := m } :=
  ⟨setControl_effect s a s.ime s.eiDelay s.halted s.stopped s.arm m, rfl, rfl, rfl, rfl, rfl⟩

theorem jumpIf_effect {cc : Cond} {a : Word} {s t : State} (h : jumpIf cc a s = .next t) :
    s.effect t ∧ s.sameControl t := by
  rcases jumpIf_next h with ⟨-, rfl⟩ | ⟨-, rfl⟩
  · exact jumpTo_effect ..
  · exact jumpTo_effect ..

theorem jumpRelIf_effect {cc : Cond} {e : Byte} {s t : State} (h : jumpRelIf cc e s = .next t) :
    s.effect t ∧ s.sameControl t := by
  rcases jumpRelIf_next h with ⟨-, rfl⟩ | ⟨-, rfl⟩
  · exact jumpTo_effect ..
  · exact jumpTo_effect ..

theorem callTo_effect {a : Word} {m : Nat} {s t : State} (h : callTo a m s = .next t) :
    s.effect t ∧ s.sameControl t := by
  obtain ⟨s1, h1, rfl⟩ := callTo_next h
  exact ⟨effect_trans (push16_plain h1).1 (jumpTo_effect ..).1, (push16_plain h1).2.1⟩

theorem callIf_effect {cc : Cond} {a : Word} {s t : State} (h : callIf cc a s = .next t) :
    s.effect t ∧ s.sameControl t := by
  unfold callIf at h
  split at h
  · exact callTo_effect h
  · rw [finish_next h]; exact ⟨(setCycles_plain ..).1, (setCycles_plain ..).2.1⟩

theorem returnFrom_effect {b : Bool} {m : Nat} {s t : State} (h : returnFrom s b m = .next t) :
    s.effect t ∧ t.ime = (s.ime || b) ∧ t.eiDelay = s.eiDelay ∧ t.halted = s.halted ∧ t.stopped = s.stopped ∧
      t.arm = s.arm := by
  obtain ⟨w, -, rfl⟩ := returnFrom_next h
  exact ⟨effect_trans (setSp_plain s (s.sp + 2#16)).1
    (setControl_effect _ w (s.ime || b) s.eiDelay s.halted s.stopped s.arm m), rfl, rfl, rfl, rfl, rfl⟩

theorem returnIf_effect {cc : Cond} {s t : State} (h : returnIf cc s = .next t) :
    s.effect t ∧ s.sameControl t := by
  unfold returnIf at h
  split at h
  · obtain ⟨he, hi, hr⟩ := returnFrom_effect h
    exact ⟨he, by simpa using hi, hr⟩
  · rw [finish_next h]; exact ⟨(setCycles_plain ..).1, (setCycles_plain ..).2.1⟩

theorem serviceInterrupt_effect {s t : State} {i : Nat} (h : serviceInterrupt s i = .next t) :
    s.effect t ∧ t.ime = false ∧ t.eiDelay = false ∧ t.halted = s.halted ∧ t.stopped = s.stopped ∧ t.arm = s.arm := by
  obtain ⟨s1, h1, rfl⟩ := serviceInterrupt_next h
  obtain ⟨he, ⟨-, -, hh, hs, ha⟩, -⟩ := push16_plain h1
  refine ⟨effect_trans he ?_, rfl, rfl, hh, hs, ha⟩
  refine effect_trans (setControl_effect s1 (vectorOf i) false false s1.halted s1.stopped s1.arm s1.cycles) ?_
  refine ⟨fun h => ?_, id, rfl, rfl, rfl, rfl, rfl, rfl⟩
  exact evolves_congr (handleWrite_evolves h rfl) rfl rfl

end Sys2Proof.Machine
end

