-- ==== Sys2Proof/Laws/Exec.lean ====
section
/-! SUPPORT. Every instruction is one of a few dozen shared operations: `exec_eq_run`. A proof over all instructions is a case
analysis over `Operation`, citing `Laws/Meaning.lean`; nothing is defined anew here. -/

namespace Sys2Proof.Machine

/-- The addresses the loads and stores form. -/
inductive Address where
  | hl
  | bc
  | de
  | imm (n : Word)
  | high (n : Byte)
  | highC

/-- The address in a state. -/
def Address.eval (s : State) : Address → Word
  | .hl => s.hl
  | .bc => s.bc
  | .de => s.de
  | .imm n => n
  | .high n => highPage n
  | .highC => highPage s.c

/-- A source byte: a register or an immediate. -/
inductive Source where
  | reg (r : Reg8)
  | imm (n : Byte)

/-- The source byte in a state. -/
def Source.eval (s : State) : Source → Byte
  | .reg r => s.getReg r
  | .imm n => n

/-- The shared operations, with their arguments as data. -/
inductive Operation where
  | loadReg (dst src : Reg8)
  | loadImm (dst : Reg8) (n : Byte)
  | loadMem (dst : Reg8) (a : Address) (m : Nat)
  | storeByte (a : Address) (v : Source) (m : Nat)
  | storeMovingHL (step : Word)
  | loadMovingHL (step : Word)
  | loadPair (p : Pair) (n : Word)
  | loadSpHL
  | loadHlSp (e : Byte)
  | storeSp (a : Word)
  | push (p : StackPair)
  | pop (p : StackPair)
  | alu (op : AluOp) (v : Source) (m : Nat)
  | aluMem (op : AluOp)
  | incReg (r : Reg8)
  | decReg (r : Reg8)
  | incMem
  | decMem
  | daa
  | cpl
  | scf
  | ccf
  | addHl (p : Pair)
  | incPair (p : Pair)
  | decPair (p : Pair)
  | addSp (e : Byte)
  | rotateA (op : RotOp)
  | rotate (op : RotOp) (o : Operand8) (m : Nat)
  | testBit (b : BitVec 3) (o : Operand8) (m : Nat)
  | resetBit (b : BitVec 3) (o : Operand8) (m : Nat)
  | setBit (b : BitVec 3) (o : Operand8) (m : Nat)
  | jump (a : Word)
  | jumpHL
  | jumpRel (e : Byte)
  | jumpIf (cc : Cond) (a : Word)
  | jumpRelIf (cc : Cond) (e : Byte)
  | callTo (a : Word) (m : Nat)
  | callIf (cc : Cond) (a : Word)
  | ret
  | reti
  | retIf (cc : Cond)
  | nop
  | stop
  | halt
  | di
  | ei
  | undefined (b : Byte)
  | prefixed (o : Byte)

/-- What an operation answers. -/
def Operation.run (op : Operation) (s : State) : Answer :=
  match op with
  | .loadReg dst src => Machine.loadReg dst src s
  | .loadImm dst n => finish 2 (s.setReg dst n)
  | .loadMem dst a m => Machine.loadMem dst (a.eval s) m s
  | .storeByte a v m => Machine.storeByte (a.eval s) (v.eval s) m s
  | .storeMovingHL step => Machine.storeMovingHL step s
  | .loadMovingHL step => Machine.loadMovingHL step s
  | .loadPair p n => finish 3 (s.setPair p n)
  | .loadSpHL => finish 2 { s with sp := s.hl }
  | .loadHlSp e => Machine.loadHlSp e s
  | .storeSp a => Machine.storeSp a s
  | .push p => pushPair p s
  | .pop p => popPair p s
  | .alu op v m => aluByte op (v.eval s) m s
  | .aluMem op => Machine.aluMem op s
  | .incReg r => Machine.incReg r s
  | .decReg r => Machine.decReg r s
  | .incMem => Machine.incMem s
  | .decMem => Machine.decMem s
  | .daa => decimalAdjust s
  | .cpl => complementA s
  | .scf => setCarry s
  | .ccf => complementCarry s
  | .addHl p => Machine.addHl (s.getPair p) s
  | .incPair p => finish 2 (s.setPair p (s.getPair p + 1#16))
  | .decPair p => finish 2 (s.setPair p (s.getPair p - 1#16))
  | .addSp e => Machine.addSp e s
  | .rotateA op => Machine.rotateA op s
  | .rotate op o m => rotateOperand op o m s
  | .testBit b o m => Machine.testBit b o m s
  | .resetBit b o m => Machine.resetBit b o m s
  | .setBit b o m => Machine.setBit b o m s
  | .jump a => finish 4 { s with pc := a }
  | .jumpHL => finish 1 { s with pc := s.hl }
  | .jumpRel e => finish 3 { s with pc := s.pc + sext16 e }
  | .jumpIf cc a => Machine.jumpIf cc a s
  | .jumpRelIf cc e => Machine.jumpRelIf cc e s
  | .callTo a m => Machine.callTo a m s
  | .callIf cc a => Machine.callIf cc a s
  | .ret => returnFrom s false 4
  | .reti => returnFrom s true 4
  | .retIf cc => returnIf cc s
  | .nop => finish 1 s
  | .stop => finish 1 { s with stopped := true }
  | .halt => finish 1 { s with halted := true }
  | .di => finish 1 { s with ime := false, arm := false }
  | .ei => finish 1 { s with eiDelay := true }
  | .undefined b => .fault (.unknownOpcode .base b)
  | .prefixed o => cbEntry o s

/-- The operation of each instruction. -/
def operationOf (i : Instr) : Operation :=
  match i with
  | .nop => .nop
  | .ld_BC_n16 n => .loadPair .bc n
  | .ld_mBC_A => .storeByte .bc (.reg .a) 2
  | .inc_BC => .incPair .bc
  | .inc_B => .incReg .b
  | .dec_B => .decReg .b
  | .ld_B_n8 n => .loadImm .b n
  | .rlca => .rotateA .rlc
  | .ld_ma16_SP n => .storeSp n
  | .add_HL_BC => .addHl .bc
  | .ld_A_mBC => .loadMem .a .bc 2
  | .dec_BC => .decPair .bc
  | .inc_C => .incReg .c
  | .dec_C => .decReg .c
  | .ld_C_n8 n => .loadImm .c n
  | .rrca => .rotateA .rrc
  | .stop _ => .stop
  | .ld_DE_n16 n => .loadPair .de n
  | .ld_mDE_A => .storeByte .de (.reg .a) 2
  | .inc_DE => .incPair .de
  | .inc_D => .incReg .d
  | .dec_D => .decReg .d
  | .ld_D_n8 n => .loadImm .d n
  | .rla => .rotateA .rl
  | .jr_e8 e => .jumpRel e
  | .add_HL_DE => .addHl .de
  | .ld_A_mDE => .loadMem .a .de 2
  | .dec_DE => .decPair .de
  | .inc_E => .incReg .e
  | .dec_E => .decReg .e
  | .ld_E_n8 n => .loadImm .e n
  | .rra => .rotateA .rr
  | .jr_NZ_e8 e => .jumpRelIf .nz e
  | .ld_HL_n16 n => .loadPair .hl n
  | .ld_mHLi_A => .storeMovingHL 1#16
  | .inc_HL => .incPair .hl
  | .inc_H => .incReg .h
  | .dec_H => .decReg .h
  | .ld_H_n8 n => .loadImm .h n
  | .daa => .daa
  | .jr_Z_e8 e => .jumpRelIf .z e
  | .add_HL_HL => .addHl .hl
  | .ld_A_mHLi => .loadMovingHL 1#16
  | .dec_HL => .decPair .hl
  | .inc_L => .incReg .l
  | .dec_L => .decReg .l
  | .ld_L_n8 n => .loadImm .l n
  | .cpl => .cpl
  | .jr_NC_e8 e => .jumpRelIf .nc e
  | .ld_SP_n16 n => .loadPair .sp n
  | .ld_mHLd_A => .storeMovingHL (-1#16)
  | .inc_SP => .incPair .sp
  | .inc_mHL => .incMem
  | .dec_mHL => .decMem
  | .ld_mHL_n8 n => .storeByte .hl (.imm n) 3
  | .scf => .scf
  | .jr_C_e8 e => .jumpRelIf .c e
  | .add_HL_SP => .addHl .sp
  | .ld_A_mHLd => .loadMovingHL (-1#16)
  | .dec_SP => .decPair .sp
  | .inc_A => .incReg .a
  | .dec_A => .decReg .a
  | .ld_A_n8 n => .loadImm .a n
  | .ccf => .ccf
  | .ld_B_B => .loadReg .b .b
  | .ld_B_C => .loadReg .b .c
  | .ld_B_D => .loadReg .b .d
  | .ld_B_E => .loadReg .b .e
  | .ld_B_H => .loadReg .b .h
  | .ld_B_L => .loadReg .b .l
  | .ld_B_mHL => .loadMem .b .hl 2
  | .ld_B_A => .loadReg .b .a
  | .ld_C_B => .loadReg .c .b
  | .ld_C_C => .loadReg .c .c
  | .ld_C_D => .loadReg .c .d
  | .ld_C_E => .loadReg .c .e
  | .ld_C_H => .loadReg .c .h
  | .ld_C_L => .loadReg .c .l
  | .ld_C_mHL => .loadMem .c .hl 2
  | .ld_C_A => .loadReg .c .a
  | .ld_D_B => .loadReg .d .b
  | .ld_D_C => .loadReg .d .c
  | .ld_D_D => .loadReg .d .d
  | .ld_D_E => .loadReg .d .e
  | .ld_D_H => .loadReg .d .h
  | .ld_D_L => .loadReg .d .l
  | .ld_D_mHL => .loadMem .d .hl 2
  | .ld_D_A => .loadReg .d .a
  | .ld_E_B => .loadReg .e .b
  | .ld_E_C => .loadReg .e .c
  | .ld_E_D => .loadReg .e .d
  | .ld_E_E => .loadReg .e .e
  | .ld_E_H => .loadReg .e .h
  | .ld_E_L => .loadReg .e .l
  | .ld_E_mHL => .loadMem .e .hl 2
  | .ld_E_A => .loadReg .e .a
  | .ld_H_B => .loadReg .h .b
  | .ld_H_C => .loadReg .h .c
  | .ld_H_D => .loadReg .h .d
  | .ld_H_E => .loadReg .h .e
  | .ld_H_H => .loadReg .h .h
  | .ld_H_L => .loadReg .h .l
  | .ld_H_mHL => .loadMem .h .hl 2
  | .ld_H_A => .loadReg .h .a
  | .ld_L_B => .loadReg .l .b
  | .ld_L_C => .loadReg .l .c
  | .ld_L_D => .loadReg .l .d
  | .ld_L_E => .loadReg .l .e
  | .ld_L_H => .loadReg .l .h
  | .ld_L_L => .loadReg .l .l
  | .ld_L_mHL => .loadMem .l .hl 2
  | .ld_L_A => .loadReg .l .a
  | .ld_mHL_B => .storeByte .hl (.reg .b) 2
  | .ld_mHL_C => .storeByte .hl (.reg .c) 2
  | .ld_mHL_D => .storeByte .hl (.reg .d) 2
  | .ld_mHL_E => .storeByte .hl (.reg .e) 2
  | .ld_mHL_H => .storeByte .hl (.reg .h) 2
  | .ld_mHL_L => .storeByte .hl (.reg .l) 2
  | .halt => .halt
  | .ld_mHL_A => .storeByte .hl (.reg .a) 2
  | .ld_A_B => .loadReg .a .b
  | .ld_A_C => .loadReg .a .c
  | .ld_A_D => .loadReg .a .d
  | .ld_A_E => .loadReg .a .e
  | .ld_A_H => .loadReg .a .h
  | .ld_A_L => .loadReg .a .l
  | .ld_A_mHL => .loadMem .a .hl 2
  | .ld_A_A => .loadReg .a .a
  | .add_A_B => .alu .add (.reg .b) 1
  | .add_A_C => .alu .add (.reg .c) 1
  | .add_A_D => .alu .add (.reg .d) 1
  | .add_A_E => .alu .add (.reg .e) 1
  | .add_A_H => .alu .add (.reg .h) 1
  | .add_A_L => .alu .add (.reg .l) 1
  | .add_A_mHL => .aluMem .add
  | .add_A_A => .alu .add (.reg .a) 1
  | .adc_A_B => .alu .adc (.reg .b) 1
  | .adc_A_C => .alu .adc (.reg .c) 1
  | .adc_A_D => .alu .adc (.reg .d) 1
  | .adc_A_E => .alu .adc (.reg .e) 1
  | .adc_A_H => .alu .adc (.reg .h) 1
  | .adc_A_L => .alu .adc (.reg .l) 1
  | .adc_A_mHL => .aluMem .adc
  | .adc_A_A => .alu .adc (.reg .a) 1
  | .sub_B => .alu .sub (.reg .b) 1
  | .sub_C => .alu .sub (.reg .c) 1
  | .sub_D => .alu .sub (.reg .d) 1
  | .sub_E => .alu .sub (.reg .e) 1
  | .sub_H => .alu .sub (.reg .h) 1
  | .sub_L => .alu .sub (.reg .l) 1
  | .sub_mHL => .aluMem .sub
  | .sub_A => .alu .sub (.reg .a) 1
  | .sbc_A_B => .alu .sbc (.reg .b) 1
  | .sbc_A_C => .alu .sbc (.reg .c) 1
  | .sbc_A_D => .alu .sbc (.reg .d) 1
  | .sbc_A_E => .alu .sbc (.reg .e) 1
  | .sbc_A_H => .alu .sbc (.reg .h) 1
  | .sbc_A_L => .alu .sbc (.reg .l) 1
  | .sbc_A_mHL => .aluMem .sbc
  | .sbc_A_A => .alu .sbc (.reg .a) 1
  | .and_B => .alu .and (.reg .b) 1
  | .and_C => .alu .and (.reg .c) 1
  | .and_D => .alu .and (.reg .d) 1
  | .and_E => .alu .and (.reg .e) 1
  | .and_H => .alu .and (.reg .h) 1
  | .and_L => .alu .and (.reg .l) 1
  | .and_mHL => .aluMem .and
  | .and_A => .alu .and (.reg .a) 1
  | .xor_B => .alu .xor (.reg .b) 1
  | .xor_C => .alu .xor (.reg .c) 1
  | .xor_D => .alu .xor (.reg .d) 1
  | .xor_E => .alu .xor (.reg .e) 1
  | .xor_H => .alu .xor (.reg .h) 1
  | .xor_L => .alu .xor (.reg .l) 1
  | .xor_mHL => .aluMem .xor
  | .xor_A => .alu .xor (.reg .a) 1
  | .or_B => .alu .or (.reg .b) 1
  | .or_C => .alu .or (.reg .c) 1
  | .or_D => .alu .or (.reg .d) 1
  | .or_E => .alu .or (.reg .e) 1
  | .or_H => .alu .or (.reg .h) 1
  | .or_L => .alu .or (.reg .l) 1
  | .or_mHL => .aluMem .or
  | .or_A => .alu .or (.reg .a) 1
  | .cp_B => .alu .cp (.reg .b) 1
  | .cp_C => .alu .cp (.reg .c) 1
  | .cp_D => .alu .cp (.reg .d) 1
  | .cp_E => .alu .cp (.reg .e) 1
  | .cp_H => .alu .cp (.reg .h) 1
  | .cp_L => .alu .cp (.reg .l) 1
  | .cp_mHL => .aluMem .cp
  | .cp_A => .alu .cp (.reg .a) 1
  | .ret_NZ => .retIf .nz
  | .pop_BC => .pop .bc
  | .jp_NZ_a16 n => .jumpIf .nz n
  | .jp_a16 n => .jump n
  | .call_NZ_a16 n => .callIf .nz n
  | .push_BC => .push .bc
  | .add_A_n8 n => .alu .add (.imm n) 2
  | .rst_00 => .callTo 0x0000#16 4
  | .ret_Z => .retIf .z
  | .ret => .ret
  | .jp_Z_a16 n => .jumpIf .z n
  | .prefixCB o => .prefixed o
  | .call_Z_a16 n => .callIf .z n
  | .call_a16 n => .callTo n 6
  | .adc_A_n8 n => .alu .adc (.imm n) 2
  | .rst_08 => .callTo 0x0008#16 4
  | .ret_NC => .retIf .nc
  | .pop_DE => .pop .de
  | .jp_NC_a16 n => .jumpIf .nc n
  | .undefined_D3 => .undefined 0xD3#8
  | .call_NC_a16 n => .callIf .nc n
  | .push_DE => .push .de
  | .sub_n8 n => .alu .sub (.imm n) 2
  | .rst_10 => .callTo 0x0010#16 4
  | .ret_C => .retIf .c
  | .reti => .reti
  | .jp_C_a16 n => .jumpIf .c n
  | .undefined_DB => .undefined 0xDB#8
  | .call_C_a16 n => .callIf .c n
  | .undefined_DD => .undefined 0xDD#8
  | .sbc_A_n8 n => .alu .sbc (.imm n) 2
  | .rst_18 => .callTo 0x0018#16 4
  | .ldh_ma8_A n => .storeByte (.high n) (.reg .a) 3
  | .pop_HL => .pop .hl
  | .ld_mC_A => .storeByte .highC (.reg .a) 2
  | .undefined_E3 => .undefined 0xE3#8
  | .undefined_E4 => .undefined 0xE4#8
  | .push_HL => .push .hl
  | .and_n8 n => .alu .and (.imm n) 2
  | .rst_20 => .callTo 0x0020#16 4
  | .add_SP_e8 e => .addSp e
  | .jp_HL => .jumpHL
  | .ld_ma16_A n => .storeByte (.imm n) (.reg .a) 4
  | .undefined_EB => .undefined 0xEB#8
  | .undefined_EC => .undefined 0xEC#8
  | .undefined_ED => .undefined 0xED#8
  | .xor_n8 n => .alu .xor (.imm n) 2
  | .rst_28 => .callTo 0x0028#16 4
  | .ldh_A_ma8 n => .loadMem .a (.high n) 3
  | .pop_AF => .pop .af
  | .ld_A_mC => .loadMem .a .highC 2
  | .di => .di
  | .undefined_F4 => .undefined 0xF4#8
  | .push_AF => .push .af
  | .or_n8 n => .alu .or (.imm n) 2
  | .rst_30 => .callTo 0x0030#16 4
  | .ld_HL_SP_e8 e => .loadHlSp e
  | .ld_SP_HL => .loadSpHL
  | .ld_A_ma16 n => .loadMem .a (.imm n) 4
  | .ei => .ei
  | .undefined_FC => .undefined 0xFC#8
  | .undefined_FD => .undefined 0xFD#8
  | .cp_n8 n => .alu .cp (.imm n) 2
  | .rst_38 => .callTo 0x0038#16 4
  | .rlc_B => .rotate .rlc (.reg .b) 2
  | .rlc_C => .rotate .rlc (.reg .c) 2
  | .rlc_D => .rotate .rlc (.reg .d) 2
  | .rlc_E => .rotate .rlc (.reg .e) 2
  | .rlc_H => .rotate .rlc (.reg .h) 2
  | .rlc_L => .rotate .rlc (.reg .l) 2
  | .rlc_mHL => .rotate .rlc .memHL 4
  | .rlc_A => .rotate .rlc (.reg .a) 2
  | .rrc_B => .rotate .rrc (.reg .b) 2
  | .rrc_C => .rotate .rrc (.reg .c) 2
  | .rrc_D => .rotate .rrc (.reg .d) 2
  | .rrc_E => .rotate .rrc (.reg .e) 2
  | .rrc_H => .rotate .rrc (.reg .h) 2
  | .rrc_L => .rotate .rrc (.reg .l) 2
  | .rrc_mHL => .rotate .rrc .memHL 4
  | .rrc_A => .rotate .rrc (.reg .a) 2
  | .rl_B => .rotate .rl (.reg .b) 2
  | .rl_C => .rotate .rl (.reg .c) 2
  | .rl_D => .rotate .rl (.reg .d) 2
  | .rl_E => .rotate .rl (.reg .e) 2
  | .rl_H => .rotate .rl (.reg .h) 2
  | .rl_L => .rotate .rl (.reg .l) 2
  | .rl_mHL => .rotate .rl .memHL 4
  | .rl_A => .rotate .rl (.reg .a) 2
  | .rr_B => .rotate .rr (.reg .b) 2
  | .rr_C => .rotate .rr (.reg .c) 2
  | .rr_D => .rotate .rr (.reg .d) 2
  | .rr_E => .rotate .rr (.reg .e) 2
  | .rr_H => .rotate .rr (.reg .h) 2
  | .rr_L => .rotate .rr (.reg .l) 2
  | .rr_mHL => .rotate .rr .memHL 4
  | .rr_A => .rotate .rr (.reg .a) 2
  | .sla_B => .rotate .sla (.reg .b) 2
  | .sla_C => .rotate .sla (.reg .c) 2
  | .sla_D => .rotate .sla (.reg .d) 2
  | .sla_E => .rotate .sla (.reg .e) 2
  | .sla_H => .rotate .sla (.reg .h) 2
  | .sla_L => .rotate .sla (.reg .l) 2
  | .sla_mHL => .rotate .sla .memHL 4
  | .sla_A => .rotate .sla (.reg .a) 2
  | .sra_B => .rotate .sra (.reg .b) 2
  | .sra_C => .rotate .sra (.reg .c) 2
  | .sra_D => .rotate .sra (.reg .d) 2
  | .sra_E => .rotate .sra (.reg .e) 2
  | .sra_H => .rotate .sra (.reg .h) 2
  | .sra_L => .rotate .sra (.reg .l) 2
  | .sra_mHL => .rotate .sra .memHL 4
  | .sra_A => .rotate .sra (.reg .a) 2
  | .swap_B => .rotate .swap (.reg .b) 2
  | .swap_C => .rotate .swap (.reg .c) 2
  | .swap_D => .rotate .swap (.reg .d) 2
  | .swap_E => .rotate .swap (.reg .e) 2
  | .swap_H => .rotate .swap (.reg .h) 2
  | .swap_L => .rotate .swap (.reg .l) 2
  | .swap_mHL => .rotate .swap .memHL 4
  | .swap_A => .rotate .swap (.reg .a) 2
  | .srl_B => .rotate .srl (.reg .b) 2
  | .srl_C => .rotate .srl (.reg .c) 2
  | .srl_D => .rotate .srl (.reg .d) 2
  | .srl_E => .rotate .srl (.reg .e) 2
  | .srl_H => .rotate .srl (.reg .h) 2
  | .srl_L => .rotate .srl (.reg .l) 2
  | .srl_mHL => .rotate .srl .memHL 4
  | .srl_A => .rotate .srl (.reg .a) 2
  | .bit_0_B => .testBit 0#3 (.reg .b) 2
  | .bit_0_C => .testBit 0#3 (.reg .c) 2
  | .bit_0_D => .testBit 0#3 (.reg .d) 2
  | .bit_0_E => .testBit 0#3 (.reg .e) 2
  | .bit_0_H => .testBit 0#3 (.reg .h) 2
  | .bit_0_L => .testBit 0#3 (.reg .l) 2
  | .bit_0_mHL => .testBit 0#3 .memHL 3
  | .bit_0_A => .testBit 0#3 (.reg .a) 2
  | .bit_1_B => .testBit 1#3 (.reg .b) 2
  | .bit_1_C => .testBit 1#3 (.reg .c) 2
  | .bit_1_D => .testBit 1#3 (.reg .d) 2
  | .bit_1_E => .testBit 1#3 (.reg .e) 2
  | .bit_1_H => .testBit 1#3 (.reg .h) 2
  | .bit_1_L => .testBit 1#3 (.reg .l) 2
  | .bit_1_mHL => .testBit 1#3 .memHL 3
  | .bit_1_A => .testBit 1#3 (.reg .a) 2
  | .bit_2_B => .testBit 2#3 (.reg .b) 2
  | .bit_2_C => .testBit 2#3 (.reg .c) 2
  | .bit_2_D => .testBit 2#3 (.reg .d) 2
  | .bit_2_E => .testBit 2#3 (.reg .e) 2
  | .bit_2_H => .testBit 2#3 (.reg .h) 2
  | .bit_2_L => .testBit 2#3 (.reg .l) 2
  | .bit_2_mHL => .testBit 2#3 .memHL 3
  | .bit_2_A => .testBit 2#3 (.reg .a) 2
  | .bit_3_B => .testBit 3#3 (.reg .b) 2
  | .bit_3_C => .testBit 3#3 (.reg .c) 2
  | .bit_3_D => .testBit 3#3 (.reg .d) 2
  | .bit_3_E => .testBit 3#3 (.reg .e) 2
  | .bit_3_H => .testBit 3#3 (.reg .h) 2
  | .bit_3_L => .testBit 3#3 (.reg .l) 2
  | .bit_3_mHL => .testBit 3#3 .memHL 3
  | .bit_3_A => .testBit 3#3 (.reg .a) 2
  | .bit_4_B => .testBit 4#3 (.reg .b) 2
  | .bit_4_C => .testBit 4#3 (.reg .c) 2
  | .bit_4_D => .testBit 4#3 (.reg .d) 2
  | .bit_4_E => .testBit 4#3 (.reg .e) 2
  | .bit_4_H => .testBit 4#3 (.reg .h) 2
  | .bit_4_L => .testBit 4#3 (.reg .l) 2
  | .bit_4_mHL => .testBit 4#3 .memHL 3
  | .bit_4_A => .testBit 4#3 (.reg .a) 2
  | .bit_5_B => .testBit 5#3 (.reg .b) 2
  | .bit_5_C => .testBit 5#3 (.reg .c) 2
  | .bit_5_D => .testBit 5#3 (.reg .d) 2
  | .bit_5_E => .testBit 5#3 (.reg .e) 2
  | .bit_5_H => .testBit 5#3 (.reg .h) 2
  | .bit_5_L => .testBit 5#3 (.reg .l) 2
  | .bit_5_mHL => .testBit 5#3 .memHL 3
  | .bit_5_A => .testBit 5#3 (.reg .a) 2
  | .bit_6_B => .testBit 6#3 (.reg .b) 2
  | .bit_6_C => .testBit 6#3 (.reg .c) 2
  | .bit_6_D => .testBit 6#3 (.reg .d) 2
  | .bit_6_E => .testBit 6#3 (.reg .e) 2
  | .bit_6_H => .testBit 6#3 (.reg .h) 2
  | .bit_6_L => .testBit 6#3 (.reg .l) 2
  | .bit_6_mHL => .testBit 6#3 .memHL 3
  | .bit_6_A => .testBit 6#3 (.reg .a) 2
  | .bit_7_B => .testBit 7#3 (.reg .b) 2
  | .bit_7_C => .testBit 7#3 (.reg .c) 2
  | .bit_7_D => .testBit 7#3 (.reg .d) 2
  | .bit_7_E => .testBit 7#3 (.reg .e) 2
  | .bit_7_H => .testBit 7#3 (.reg .h) 2
  | .bit_7_L => .testBit 7#3 (.reg .l) 2
  | .bit_7_mHL => .testBit 7#3 .memHL 3
  | .bit_7_A => .testBit 7#3 (.reg .a) 2
  | .res_0_B => .resetBit 0#3 (.reg .b) 2
  | .res_0_C => .resetBit 0#3 (.reg .c) 2
  | .res_0_D => .resetBit 0#3 (.reg .d) 2
  | .res_0_E => .resetBit 0#3 (.reg .e) 2
  | .res_0_H => .resetBit 0#3 (.reg .h) 2
  | .res_0_L => .resetBit 0#3 (.reg .l) 2
  | .res_0_mHL => .resetBit 0#3 .memHL 4
  | .res_0_A => .resetBit 0#3 (.reg .a) 2
  | .res_1_B => .resetBit 1#3 (.reg .b) 2
  | .res_1_C => .resetBit 1#3 (.reg .c) 2
  | .res_1_D => .resetBit 1#3 (.reg .d) 2
  | .res_1_E => .resetBit 1#3 (.reg .e) 2
  | .res_1_H => .resetBit 1#3 (.reg .h) 2
  | .res_1_L => .resetBit 1#3 (.reg .l) 2
  | .res_1_mHL => .resetBit 1#3 .memHL 4
  | .res_1_A => .resetBit 1#3 (.reg .a) 2
  | .res_2_B => .resetBit 2#3 (.reg .b) 2
  | .res_2_C => .resetBit 2#3 (.reg .c) 2
  | .res_2_D => .resetBit 2#3 (.reg .d) 2
  | .res_2_E => .resetBit 2#3 (.reg .e) 2
  | .res_2_H => .resetBit 2#3 (.reg .h) 2
  | .res_2_L => .resetBit 2#3 (.reg .l) 2
  | .res_2_mHL => .resetBit 2#3 .memHL 4
  | .res_2_A => .resetBit 2#3 (.reg .a) 2
  | .res_3_B => .resetBit 3#3 (.reg .b) 2
  | .res_3_C => .resetBit 3#3 (.reg .c) 2
  | .res_3_D => .resetBit 3#3 (.reg .d) 2
  | .res_3_E => .resetBit 3#3 (.reg .e) 2
  | .res_3_H => .resetBit 3#3 (.reg .h) 2
  | .res_3_L => .resetBit 3#3 (.reg .l) 2
  | .res_3_mHL => .resetBit 3#3 .memHL 4
  | .res_3_A => .resetBit 3#3 (.reg .a) 2
  | .res_4_B => .resetBit 4#3 (.reg .b) 2
  | .res_4_C => .resetBit 4#3 (.reg .c) 2
  | .res_4_D => .resetBit 4#3 (.reg .d) 2
  | .res_4_E => .resetBit 4#3 (.reg .e) 2
  | .res_4_H => .resetBit 4#3 (.reg .h) 2
  | .res_4_L => .resetBit 4#3 (.reg .l) 2
  | .res_4_mHL => .resetBit 4#3 .memHL 4
  | .res_4_A => .resetBit 4#3 (.reg .a) 2
  | .res_5_B => .resetBit 5#3 (.reg .b) 2
  | .res_5_C => .resetBit 5#3 (.reg .c) 2
  | .res_5_D => .resetBit 5#3 (.reg .d) 2
  | .res_5_E => .resetBit 5#3 (.reg .e) 2
  | .res_5_H => .resetBit 5#3 (.reg .h) 2
  | .res_5_L => .resetBit 5#3 (.reg .l) 2
  | .res_5_mHL => .resetBit 5#3 .memHL 4
  | .res_5_A => .resetBit 5#3 (.reg .a) 2
  | .res_6_B => .resetBit 6#3 (.reg .b) 2
  | .res_6_C => .resetBit 6#3 (.reg .c) 2
  | .res_6_D => .resetBit 6#3 (.reg .d) 2
  | .res_6_E => .resetBit 6#3 (.reg .e) 2
  | .res_6_H => .resetBit 6#3 (.reg .h) 2
  | .res_6_L => .resetBit 6#3 (.reg .l) 2
  | .res_6_mHL => .resetBit 6#3 .memHL 4
  | .res_6_A => .resetBit 6#3 (.reg .a) 2
  | .res_7_B => .resetBit 7#3 (.reg .b) 2
  | .res_7_C => .resetBit 7#3 (.reg .c) 2
  | .res_7_D => .resetBit 7#3 (.reg .d) 2
  | .res_7_E => .resetBit 7#3 (.reg .e) 2
  | .res_7_H => .resetBit 7#3 (.reg .h) 2
  | .res_7_L => .resetBit 7#3 (.reg .l) 2
  | .res_7_mHL => .resetBit 7#3 .memHL 4
  | .res_7_A => .resetBit 7#3 (.reg .a) 2
  | .set_0_B => .setBit 0#3 (.reg .b) 2
  | .set_0_C => .setBit 0#3 (.reg .c) 2
  | .set_0_D => .setBit 0#3 (.reg .d) 2
  | .set_0_E => .setBit 0#3 (.reg .e) 2
  | .set_0_H => .setBit 0#3 (.reg .h) 2
  | .set_0_L => .setBit 0#3 (.reg .l) 2
  | .set_0_mHL => .setBit 0#3 .memHL 4
  | .set_0_A => .setBit 0#3 (.reg .a) 2
  | .set_1_B => .setBit 1#3 (.reg .b) 2
  | .set_1_C => .setBit 1#3 (.reg .c) 2
  | .set_1_D => .setBit 1#3 (.reg .d) 2
  | .set_1_E => .setBit 1#3 (.reg .e) 2
  | .set_1_H => .setBit 1#3 (.reg .h) 2
  | .set_1_L => .setBit 1#3 (.reg .l) 2
  | .set_1_mHL => .setBit 1#3 .memHL 4
  | .set_1_A => .setBit 1#3 (.reg .a) 2
  | .set_2_B => .setBit 2#3 (.reg .b) 2
  | .set_2_C => .setBit 2#3 (.reg .c) 2
  | .set_2_D => .setBit 2#3 (.reg .d) 2
  | .set_2_E => .setBit 2#3 (.reg .e) 2
  | .set_2_H => .setBit 2#3 (.reg .h) 2
  | .set_2_L => .setBit 2#3 (.reg .l) 2
  | .set_2_mHL => .setBit 2#3 .memHL 4
  | .set_2_A => .setBit 2#3 (.reg .a) 2
  | .set_3_B => .setBit 3#3 (.reg .b) 2
  | .set_3_C => .setBit 3#3 (.reg .c) 2
  | .set_3_D => .setBit 3#3 (.reg .d) 2
  | .set_3_E => .setBit 3#3 (.reg .e) 2
  | .set_3_H => .setBit 3#3 (.reg .h) 2
  | .set_3_L => .setBit 3#3 (.reg .l) 2
  | .set_3_mHL => .setBit 3#3 .memHL 4
  | .set_3_A => .setBit 3#3 (.reg .a) 2
  | .set_4_B => .setBit 4#3 (.reg .b) 2
  | .set_4_C => .setBit 4#3 (.reg .c) 2
  | .set_4_D => .setBit 4#3 (.reg .d) 2
  | .set_4_E => .setBit 4#3 (.reg .e) 2
  | .set_4_H => .setBit 4#3 (.reg .h) 2
  | .set_4_L => .setBit 4#3 (.reg .l) 2
  | .set_4_mHL => .setBit 4#3 .memHL 4
  | .set_4_A => .setBit 4#3 (.reg .a) 2
  | .set_5_B => .setBit 5#3 (.reg .b) 2
  | .set_5_C => .setBit 5#3 (.reg .c) 2
  | .set_5_D => .setBit 5#3 (.reg .d) 2
  | .set_5_E => .setBit 5#3 (.reg .e) 2
  | .set_5_H => .setBit 5#3 (.reg .h) 2
  | .set_5_L => .setBit 5#3 (.reg .l) 2
  | .set_5_mHL => .setBit 5#3 .memHL 4
  | .set_5_A => .setBit 5#3 (.reg .a) 2
  | .set_6_B => .setBit 6#3 (.reg .b) 2
  | .set_6_C => .setBit 6#3 (.reg .c) 2
  | .set_6_D => .setBit 6#3 (.reg .d) 2
  | .set_6_E => .setBit 6#3 (.reg .e) 2
  | .set_6_H => .setBit 6#3 (.reg .h) 2
  | .set_6_L => .setBit 6#3 (.reg .l) 2
  | .set_6_mHL => .setBit 6#3 .memHL 4
  | .set_6_A => .setBit 6#3 (.reg .a) 2
  | .set_7_B => .setBit 7#3 (.reg .b) 2
  | .set_7_C => .setBit 7#3 (.reg .c) 2
  | .set_7_D => .setBit 7#3 (.reg .d) 2
  | .set_7_E => .setBit 7#3 (.reg .e) 2
  | .set_7_H => .setBit 7#3 (.reg .h) 2
  | .set_7_L => .setBit 7#3 (.reg .l) 2
  | .set_7_mHL => .setBit 7#3 .memHL 4
  | .set_7_A => .setBit 7#3 (.reg .a) 2

/-- Every instruction is its operation. -/
theorem exec_eq_run (i : Instr) (s : State) : exec i s = (operationOf i).run s := by cases i <;> rfl

/-- An instruction that completes changes memory, F and the rest of the machine only as `State.effect` says. -/
theorem exec_effect {i : Instr} {s t : State} (h : exec i s = .next t) : s.effect t := by
  rw [exec_eq_run] at h
  cases hi : operationOf i <;> rw [hi] at h <;> simp only [Operation.run] at h
  case loadReg => exact (loadReg_plain h).1
  case loadImm => exact (finish_plain h (setReg_plain ..)).1
  case loadMem => exact (loadMem_plain h).1
  case storeByte => exact (storeByte_plain h).1
  case storeMovingHL => exact (storeMovingHL_plain h).1
  case loadMovingHL => exact (loadMovingHL_plain h).1
  case loadPair => exact (finish_plain h (setPair_plain ..)).1
  case loadSpHL => exact (finish_plain h (setSp_plain ..)).1
  case loadHlSp => exact (loadHlSp_plain h).1
  case storeSp => exact (storeSp_plain h).1
  case push => exact (pushPair_plain h).1
  case pop => exact (popPair_plain h).1
  case alu => exact (aluByte_plain h).1
  case aluMem => exact (aluMem_plain h).1
  case incReg => exact (incReg_plain h).1
  case decReg => exact (decReg_plain h).1
  case incMem => exact (incMem_plain h).1
  case decMem => exact (decMem_plain h).1
  case daa => exact (decimalAdjust_plain h).1
  case cpl => exact (complementA_plain h).1
  case scf => exact (setCarry_plain h).1
  case ccf => exact (complementCarry_plain h).1
  case addHl => exact (addHl_plain h).1
  case incPair => exact (finish_plain h (setPair_plain ..)).1
  case decPair => exact (finish_plain h (setPair_plain ..)).1
  case addSp => exact (addSp_plain h).1
  case rotateA => exact (rotateA_plain h).1
  case rotate => exact (rotateOperand_plain h).1
  case testBit => exact (testBit_plain h).1
  case resetBit => exact (resetBit_plain h).1
  case setBit => exact (setBit_plain h).1
  case jumpIf => exact (jumpIf_effect h).1
  case jumpRelIf => exact (jumpRelIf_effect h).1
  case callTo => exact (callTo_effect h).1
  case callIf => exact (callIf_effect h).1
  case ret => exact (returnFrom_effect h).1
  case reti => exact (returnFrom_effect h).1
  case retIf => exact (returnIf_effect h).1
  case nop => exact (finish_plain h (plainEffect_refl s)).1
  case undefined => cases h
  case prefixed => exact (cbEntry_plain h).1
  all_goals
    rw [finish_next h]
    exact setControl_effect ..

end Sys2Proof.Machine
end

