-- ==== Sys2Proof/Laws/Step.lean ====
section
/-! SUPPORT. What a fetch, a `Step()`, an environment phase and a tick can do, said once (spec/30_encoding.md R83 to R85,
spec/00_scope.md R4, R5). Every invariant of the step follows from `cpuStep_next` and `tick_next`. -/

namespace Sys2Proof.Machine

/-! ### The fetch -/

/-- A fetch moves PC by the length of the instruction it reads, and that is all it does. -/
theorem fetchInstr_ok {s : State} {r : Instr × State} (h : fetchInstr s = .ok r) :
    ∃ op, memRead s s.pc = .ok op ∧ r.2 = { s with pc := s.pc + BitVec.ofNat 16 (baseEntry op).length } := by
  unfold fetchInstr at h
  split at h
  · cases h
  · rename_i op hop
    refine ⟨op, hop, ?_⟩
    split at h
    · rename_i i he; cases h; rw [he]; rfl
    · rename_i g he
      split at h
      · cases h
      · cases h; rw [he]; rfl
    · rename_i g he
      split at h
      · cases h
      · cases h; rw [he]; rfl

/-- A fetch at the bytes of one instruction is the decoder's instruction. -/
theorem fetchInstr_of_decode {s : State} {bs : List Byte} {i : Instr} (hb : readsBytes s s.pc bs)
    (hd : decode bs = .ok (i, [])) :
    fetchInstr s = .ok (i, { s with pc := s.pc + BitVec.ofNat 16 bs.length }) := by
  cases bs with
  | nil => cases hd
  | cons op rest =>
    obtain ⟨hop, hb⟩ := hb
    unfold fetchInstr
    rw [hop]
    simp only
    unfold decode at hd
    dsimp only at hd
    cases he : baseEntry op with
    | plain i' => rw [he] at hd; cases hd; rfl
    | withByte g =>
      rw [he] at hd
      cases rest with
      | nil => cases hd
      | cons n rest => cases hd; simp only [hb.1]; rfl
    | withWord g =>
      rw [he] at hd
      rcases rest with _ | ⟨lo, _ | ⟨hi, rest⟩⟩
      · cases hd
      · cases hd
      · cases hd
        obtain ⟨h1, h2, -⟩ := hb
        have h16 : memRead16 s (s.pc + 1#16) = .ok (joinWord hi lo) := by
          unfold memRead16
          rw [h1]
          simp only [h2]
        simp only [h16]
        rfl

/-! ### `Step()` (R85) -/

theorem retire_next {r : Answer} {t : State} (h : retire r = .next t) :
    ∃ u, r = .next u ∧ t = { u with ime := u.ime || u.arm, arm := false } := by
  unfold retire at h
  split at h <;> cases h
  exact ⟨_, rfl, rfl⟩

theorem runInstr_next {s t : State} (h : runInstr s = .next t) :
    ∃ i s1 u, fetchInstr { s with arm := s.eiDelay, eiDelay := false } = .ok (i, s1) ∧ exec i s1 = .next u ∧
      t = { u with ime := u.ime || u.arm, arm := false } := by
  obtain ⟨r, h1, h⟩ := andThen_next h
  obtain ⟨u, hu, ht⟩ := retire_next h
  exact ⟨r.1, r.2, u, h1, hu, ht⟩

/-- The halt wake changes `halted` at most (R317). -/
theorem haltWake_eq (s : State) :
    haltWake s = { s with halted := s.halted && decide (pending s = 0#8) } := by
  unfold haltWake
  cases hh : s.halted <;> by_cases hp : pending s = 0#8 <;> simp [hp] <;> rw [← hh]

@[simp] theorem pending_haltWake (s : State) : pending (haltWake s) = pending s := by rw [haltWake_eq]; rfl

/-- Everything a `Step()` can do (R85): idle while stopped, service an interrupt, idle while halted, or run one
instruction. -/
theorem cpuStep_next {s t : State} (h : cpuStep s = .next t) :
    (s.stopped = true ∧ t = { s with stopped := !(handleValue s ioIF).getLsbD 4, cycles := 1 }) ∨
    (s.stopped = false ∧ s.ime = true ∧ pending s ≠ 0#8 ∧
      serviceInterrupt (haltWake s) (lowestPending (pending s)) = .next t) ∨
    (s.stopped = false ∧ (s.ime = false ∨ pending s = 0#8) ∧ (haltWake s).halted = true ∧
      t = { haltWake s with cycles := 1 }) ∨
    (s.stopped = false ∧ (s.ime = false ∨ pending s = 0#8) ∧ (haltWake s).halted = false ∧
      runInstr (haltWake s) = .next t) := by
  have hi : (haltWake s).ime = s.ime := by rw [haltWake_eq]
  unfold cpuStep at h
  split at h
  · rename_i hs
    refine .inl ⟨hs, ?_⟩
    rw [finish_next h]
    cases hb : (handleValue s ioIF).getLsbD 4
    · rw [if_neg Bool.false_ne_true]
      cases s
      cases hs
      rfl
    · rfl
  · rename_i hs
    have hs : s.stopped = false := by simpa using hs
    simp only [pending_haltWake, hi] at h
    refine .inr ?_
    split at h
    · rename_i hc
      simp only [Bool.and_eq_true, decide_eq_true_eq] at hc
      exact .inl ⟨hs, hc.1, hc.2, h⟩
    · rename_i hc
      have hc : s.ime = false ∨ pending s = 0#8 := by
        cases hi : s.ime <;> simp_all
      refine .inr ?_
      split at h
      · rename_i hh; exact .inl ⟨hs, hc, hh, finish_next h⟩
      · rename_i hh; exact .inr ⟨hs, hc, by simpa using hh, h⟩

/-- A refused fetch is the bus's fault (R83, R300). -/
theorem fetchInstr_ofCart {s : State} {f : Fault} (h : fetchInstr s = .error f) : f.ofCart := by
  unfold fetchInstr at h
  split at h
  · cases h
    exact memRead_ofCart (by assumption)
  · split at h
    · cases h
    · split at h <;> cases h
      exact memRead_ofCart (by assumption)
    · split at h <;> cases h
      exact memRead16_ofCart (by assumption)

/-- Every fault of a `Step()` (R85, R300): the bus's, in the fetch or in the push of a service, or that of the instruction
fetched. -/
theorem cpuStep_fault {s : State} {f : Fault} (h : cpuStep s = .fault f) :
    f.ofCart ∨ ∃ i s1, fetchInstr { haltWake s with arm := s.eiDelay, eiDelay := false } = .ok (i, s1) ∧
      exec i s1 = .fault f := by
  unfold cpuStep at h
  split at h
  · cases h
  · simp only at h
    split at h
    · rcases andThen_fault h with he | ⟨v, -, hv⟩
      · exact .inl (push16_ofCart he)
      · cases hv
    · split at h
      · cases h
      · rcases andThen_fault h with he | ⟨r, hr, hv⟩
        · exact .inl (fetchInstr_ofCart he)
        · refine .inr ⟨r.1, r.2, ?_, ?_⟩
          · rw [show s.eiDelay = (haltWake s).eiDelay by rw [haltWake_eq]]
            exact hr
          · unfold retire at hv
            split at hv <;> cases hv
            assumption

/-! ### The environment (R5) -/

/-- `t` comes from `s` by moves of the environment: stored bytes, versions, the cartridge's internal state and the script
of moves itself change, and nothing else. -/
def State.sameButEnv (s t : State) : Prop :=
  t = { s with mem := t.mem, versions := t.versions, cart := { s.cart with state := t.cart.state }, env := t.env }

theorem envMove_work (P : Config.Params) (s : State) (m : EnvMove) :
    s.sameButEnv (envMove P s m) ∧ (envMove P s m).env = s.env ∧ (s.memOk → s.evolves (envMove P s m)) := by
  cases m with
  | requestIrq bits => exact ⟨rfl, rfl, fun h => handleWrite_evolves h rfl⟩
  | writeReg a v =>
    simp only [envMove]
    split
    · rename_i ha
      simp only [Bool.and_eq_true] at ha
      exact ⟨rfl, rfl, fun h => handleWrite_evolves h ha.2⟩
    · exact ⟨rfl, rfl, evolves_refl⟩
  | writeOam a v =>
    simp only [envMove]
    split
    · rename_i ha
      have ho : memWrite s a v = .ok { s with mem := Memory.put s.mem (storageAddr a) v } := by
        unfold memWrite; simp only [ha]
      exact ⟨rfl, rfl, memWrite_evolves ho⟩
    · exact ⟨rfl, rfl, evolves_refl⟩
  | setCart cs => exact ⟨rfl, rfl, fun h => evolves_congr (evolves_refl h) rfl rfl⟩

theorem envMoves_work (P : Config.Params) (l : List EnvMove) (s : State) :
    s.sameButEnv (l.foldl (envMove P) s) ∧ (l.foldl (envMove P) s).env = s.env ∧
      (s.memOk → s.evolves (l.foldl (envMove P) s)) := by
  induction l generalizing s with
  | nil => exact ⟨rfl, rfl, evolves_refl⟩
  | cons m l ih =>
    obtain ⟨c1, v1, e1⟩ := envMove_work P s m
    obtain ⟨c2, v2, e2⟩ := ih (envMove P s m)
    refine ⟨?_, v2.trans v1, fun h => evolves_trans (e1 h) (e2 (e1 h).1)⟩
    unfold State.sameButEnv at *
    rw [List.foldl_cons, c2, c1]

/-- An environment phase takes the head of the script, and writes only what R5 allows. -/
theorem envPhase_work (P : Config.Params) (s : State) :
    s.sameButEnv (envPhase P s) ∧ (envPhase P s).env = s.env.tail ∧ (s.memOk → s.evolves (envPhase P s)) := by
  unfold envPhase
  cases he : s.env with
  | nil => exact ⟨rfl, he, evolves_refl⟩
  | cons m l =>
    obtain ⟨c, v, e⟩ := envMoves_work P m { s with env := l }
    refine ⟨?_, v, fun h => evolves_trans (evolves_congr (evolves_refl h) rfl rfl) (e h)⟩
    unfold State.sameButEnv at *
    exact c

/-! ### The tick (R4) -/

/-- Everything a tick that goes on can do: the environment, `Step()`, then the APU for four T-states a machine cycle. -/
theorem tick_next {P : Config.Params} {s t : State} (h : tick P s = .next t) :
    s.status = .running ∧ ∃ u, cpuStep (envPhase P s) = .next u ∧ t = apuRun P ((4 * u.cycles : Nat) : Rat) u := by
  unfold tick at h
  split at h
  · cases h
  · split at h <;> cases h
    exact ⟨by assumption, _, by assumption, rfl⟩

/-- Every fault of a tick: a faulted state's own, or that of `Step()` after the environment's moves (R4, R301). -/
theorem tick_fault {P : Config.Params} {s : State} {f : Fault} (h : tick P s = .fault f) :
    s.status = .faulted f ∨ s.status = .running ∧ cpuStep (envPhase P s) = .fault f := by
  unfold tick at h
  split at h
  · cases h
    exact .inl (by assumption)
  · split at h <;> cases h
    exact .inr ⟨by assumption, by assumption⟩

/-! ### Runs (R417) -/

/-- A faulted state is no end state (R301, R417). -/
theorem atEnd_running {endPc : Word} {s : State} (h : atEnd endPc s = true) : s.status = .running :=
  (of_decide_eq_true h).1

/-- Everything an end state is (R417): the state after some number of ticks, at END_PC, and the first such. -/
theorem runToEnd_eq_some {P : Config.Params} {endPc : Word} {k : Nat} {s t : State} :
    runToEnd P endPc k s = some t ↔
      ∃ n, n ≤ k ∧ t = runTicks P n s ∧ atEnd endPc t = true ∧ ∀ j, j < n → atEnd endPc (runTicks P j s) = false := by
  induction k generalizing s with
  | zero =>
    unfold runToEnd
    constructor
    · intro h
      split at h <;> cases h
      exact ⟨0, le_rfl, rfl, by assumption, fun j hj => absurd hj (Nat.not_lt_zero j)⟩
    · rintro ⟨n, hn, rfl, he, -⟩
      cases Nat.le_zero.1 hn
      exact if_pos he
  | succ k ih =>
    unfold runToEnd
    cases hs : atEnd endPc s
    · rw [if_neg Bool.false_ne_true, ih]
      constructor
      · rintro ⟨n, hn, ht, he, hf⟩
        refine ⟨n + 1, Nat.succ_le_succ hn, ht, he, fun j hj => ?_⟩
        cases j with
        | zero => exact hs
        | succ j => exact hf j (Nat.lt_of_succ_lt_succ hj)
      · rintro ⟨n, hn, ht, he, hf⟩
        cases n with
        | zero => rw [ht] at he; exact absurd he (by rw [show runTicks P 0 s = s from rfl, hs]; exact Bool.false_ne_true)
        | succ n =>
          exact ⟨n, Nat.le_of_succ_le_succ hn, ht, he, fun j hj => hf (j + 1) (Nat.succ_lt_succ hj)⟩
    · rw [if_pos rfl]
      constructor
      · rintro ⟨⟩
        exact ⟨0, Nat.zero_le _, rfl, hs, fun j hj => absurd hj (Nat.not_lt_zero j)⟩
      · rintro ⟨n, -, ht, -, hf⟩
        cases n with
        | zero => rw [ht]; rfl
        | succ n => exact absurd (hf 0 (Nat.succ_pos n)) (by rw [show runTicks P 0 s = s from rfl, hs]; exact Bool.noConfusion)

end Sys2Proof.Machine
end

