-- ==== Sys2Proof/Tests/Slice0.lean ====
section
/-! SUPPORT. Tests of single steps, against the vectors of spec/95_test_vectors.md and the maps of spec/30_encoding.md, and
a witness for every obligation with hypotheses: a state and operands that meet them, clause by clause. -/

namespace Sys2Proof.Tests

open Sys2Proof.Machine Sys2Proof.Claims

set_option Elab.async false

/-- The start of a vector: every register 0, PC 0x0200, SP 0xFFFE; the rest as at reset. -/
def base : State :=
  { State.reset with a := 0, f := 0, b := 0, c := 0, d := 0, e := 0, h := 0, l := 0, pc := 0x0200#16, sp := 0xFFFE#16 }

/-- A stored byte put in place, with no bus access. -/
def poke (s : State) (n : Nat) (v : Byte) : State := { s with mem := Memory.put s.mem n v }

/-- The state an answer goes on with. -/
def nextOf (r : Answer) : Option State :=
  match r with
  | .next t => some t
  | _ => none

/-- The fault of an answer. -/
def faultOf (r : Answer) : Option Fault :=
  match r with
  | .fault f => some f
  | _ => none

/-- One `Step()` on the given bytes at PC. -/
def after (s : State) (bs : List Byte) : Option State := nextOf (cpuStep (storeFetchBytes s s.pc bs))

/-- The fault of one `Step()` on the given bytes at PC. -/
def faultAfter (s : State) (bs : List Byte) : Option Fault := faultOf (cpuStep (storeFetchBytes s s.pc bs))

/-- A byte as the bus reads it. -/
def rd (s : State) (a : Word) : Option Byte := (memRead s a).toOption

/-- The state a write leaves, or the state itself where it is refused. -/
def wr (s : State) (a : Word) (v : Byte) : State := (memWrite s a v).toOption.getD s

/-- Each list of bytes decodes to its instruction, with nothing left. -/
def decodesAll (rows : List (List Byte × Instr)) : Bool :=
  rows.all fun r =>
    match decode r.1 with
    | .ok (i, []) => decide (i = r.2)
    | _ => false

/-! ### WellFormed: one ill-formed term for its one check -/

theorem test_wf_refuses_prefix : Instr.wf (.prefixCB 0x00#8) = false := rfl

theorem test_wf_accepts : Instr.wf .nop = true ∧ Instr.wf (.jp_a16 0xFFFF#16) = true ∧ Instr.wf .undefined_D3 = true :=
  ⟨rfl, rfl, rfl⟩

/-- R84: the prefix is followed by its second byte; short input is refused by name. -/
theorem test_decode_short : decode [] = .error .noBytes ∧ decode [0xCB#8] = .error (.truncated 0xCB#8) ∧
    decode [0x01#8, 0x34#8] = .error (.truncated 0x01#8) := ⟨rfl, rfl, rfl⟩

/-- The table numbers the first byte as bits 7:0; a CB row's word has the prefix first. -/
theorem test_table_word : decodeTableWord 8 0x76 = some .halt ∧ decodeTableWord 16 0x7CCB = some .bit_7_H ∧
    decodeTableWord 24 0x1234C3 = some (.jp_a16 0x1234#16) := by decide +kernel

/-! ### Decoding: every cell of the maps of R88 and R89, with operand bytes 0x9A and 0x34 0x12 -/

theorem test_decode_00 : decodesAll [
    ([0x00#8], .nop), ([0x01#8, 0x34#8, 0x12#8], .ld_BC_n16 0x1234#16), ([0x02#8], .ld_mBC_A),
    ([0x03#8], .inc_BC), ([0x04#8], .inc_B), ([0x05#8], .dec_B), ([0x06#8, 0x9A#8], .ld_B_n8 0x9A#8),
    ([0x07#8], .rlca), ([0x08#8, 0x34#8, 0x12#8], .ld_ma16_SP 0x1234#16), ([0x09#8], .add_HL_BC),
    ([0x0A#8], .ld_A_mBC), ([0x0B#8], .dec_BC), ([0x0C#8], .inc_C), ([0x0D#8], .dec_C),
    ([0x0E#8, 0x9A#8], .ld_C_n8 0x9A#8), ([0x0F#8], .rrca)] = true := by decide +kernel

theorem test_decode_10 : decodesAll [
    ([0x10#8, 0x9A#8], .stop 0x9A#8), ([0x11#8, 0x34#8, 0x12#8], .ld_DE_n16 0x1234#16), ([0x12#8], .ld_mDE_A),
    ([0x13#8], .inc_DE), ([0x14#8], .inc_D), ([0x15#8], .dec_D), ([0x16#8, 0x9A#8], .ld_D_n8 0x9A#8),
    ([0x17#8], .rla), ([0x18#8, 0x9A#8], .jr_e8 0x9A#8), ([0x19#8], .add_HL_DE), ([0x1A#8], .ld_A_mDE),
    ([0x1B#8], .dec_DE), ([0x1C#8], .inc_E), ([0x1D#8], .dec_E), ([0x1E#8, 0x9A#8], .ld_E_n8 0x9A#8),
    ([0x1F#8], .rra)] = true := by decide +kernel

theorem test_decode_20 : decodesAll [
    ([0x20#8, 0x9A#8], .jr_NZ_e8 0x9A#8), ([0x21#8, 0x34#8, 0x12#8], .ld_HL_n16 0x1234#16),
    ([0x22#8], .ld_mHLi_A), ([0x23#8], .inc_HL), ([0x24#8], .inc_H), ([0x25#8], .dec_H),
    ([0x26#8, 0x9A#8], .ld_H_n8 0x9A#8), ([0x27#8], .daa), ([0x28#8, 0x9A#8], .jr_Z_e8 0x9A#8),
    ([0x29#8], .add_HL_HL), ([0x2A#8], .ld_A_mHLi), ([0x2B#8], .dec_HL), ([0x2C#8], .inc_L), ([0x2D#8], .dec_L),
    ([0x2E#8, 0x9A#8], .ld_L_n8 0x9A#8), ([0x2F#8], .cpl)] = true := by decide +kernel

theorem test_decode_30 : decodesAll [
    ([0x30#8, 0x9A#8], .jr_NC_e8 0x9A#8), ([0x31#8, 0x34#8, 0x12#8], .ld_SP_n16 0x1234#16),
    ([0x32#8], .ld_mHLd_A), ([0x33#8], .inc_SP), ([0x34#8], .inc_mHL), ([0x35#8], .dec_mHL),
    ([0x36#8, 0x9A#8], .ld_mHL_n8 0x9A#8), ([0x37#8], .scf), ([0x38#8, 0x9A#8], .jr_C_e8 0x9A#8),
    ([0x39#8], .add_HL_SP), ([0x3A#8], .ld_A_mHLd), ([0x3B#8], .dec_SP), ([0x3C#8], .inc_A), ([0x3D#8], .dec_A),
    ([0x3E#8, 0x9A#8], .ld_A_n8 0x9A#8), ([0x3F#8], .ccf)] = true := by decide +kernel

theorem test_decode_40 : decodesAll [
    ([0x40#8], .ld_B_B), ([0x41#8], .ld_B_C), ([0x42#8], .ld_B_D), ([0x43#8], .ld_B_E), ([0x44#8], .ld_B_H),
    ([0x45#8], .ld_B_L), ([0x46#8], .ld_B_mHL), ([0x47#8], .ld_B_A), ([0x48#8], .ld_C_B), ([0x49#8], .ld_C_C),
    ([0x4A#8], .ld_C_D), ([0x4B#8], .ld_C_E), ([0x4C#8], .ld_C_H), ([0x4D#8], .ld_C_L), ([0x4E#8], .ld_C_mHL),
    ([0x4F#8], .ld_C_A)] = true := by decide +kernel

theorem test_decode_50 : decodesAll [
    ([0x50#8], .ld_D_B), ([0x51#8], .ld_D_C), ([0x52#8], .ld_D_D), ([0x53#8], .ld_D_E), ([0x54#8], .ld_D_H),
    ([0x55#8], .ld_D_L), ([0x56#8], .ld_D_mHL), ([0x57#8], .ld_D_A), ([0x58#8], .ld_E_B), ([0x59#8], .ld_E_C),
    ([0x5A#8], .ld_E_D), ([0x5B#8], .ld_E_E), ([0x5C#8], .ld_E_H), ([0x5D#8], .ld_E_L), ([0x5E#8], .ld_E_mHL),
    ([0x5F#8], .ld_E_A)] = true := by decide +kernel

theorem test_decode_60 : decodesAll [
    ([0x60#8], .ld_H_B), ([0x61#8], .ld_H_C), ([0x62#8], .ld_H_D), ([0x63#8], .ld_H_E), ([0x64#8], .ld_H_H),
    ([0x65#8], .ld_H_L), ([0x66#8], .ld_H_mHL), ([0x67#8], .ld_H_A), ([0x68#8], .ld_L_B), ([0x69#8], .ld_L_C),
    ([0x6A#8], .ld_L_D), ([0x6B#8], .ld_L_E), ([0x6C#8], .ld_L_H), ([0x6D#8], .ld_L_L), ([0x6E#8], .ld_L_mHL),
    ([0x6F#8], .ld_L_A)] = true := by decide +kernel

theorem test_decode_70 : decodesAll [
    ([0x70#8], .ld_mHL_B), ([0x71#8], .ld_mHL_C), ([0x72#8], .ld_mHL_D), ([0x73#8], .ld_mHL_E),
    ([0x74#8], .ld_mHL_H), ([0x75#8], .ld_mHL_L), ([0x76#8], .halt), ([0x77#8], .ld_mHL_A), ([0x78#8], .ld_A_B),
    ([0x79#8], .ld_A_C), ([0x7A#8], .ld_A_D), ([0x7B#8], .ld_A_E), ([0x7C#8], .ld_A_H), ([0x7D#8], .ld_A_L),
    ([0x7E#8], .ld_A_mHL), ([0x7F#8], .ld_A_A)] = true := by decide +kernel

theorem test_decode_80 : decodesAll [
    ([0x80#8], .add_A_B), ([0x81#8], .add_A_C), ([0x82#8], .add_A_D), ([0x83#8], .add_A_E), ([0x84#8], .add_A_H),
    ([0x85#8], .add_A_L), ([0x86#8], .add_A_mHL), ([0x87#8], .add_A_A), ([0x88#8], .adc_A_B),
    ([0x89#8], .adc_A_C), ([0x8A#8], .adc_A_D), ([0x8B#8], .adc_A_E), ([0x8C#8], .adc_A_H), ([0x8D#8], .adc_A_L),
    ([0x8E#8], .adc_A_mHL), ([0x8F#8], .adc_A_A)] = true := by decide +kernel

theorem test_decode_90 : decodesAll [
    ([0x90#8], .sub_B), ([0x91#8], .sub_C), ([0x92#8], .sub_D), ([0x93#8], .sub_E), ([0x94#8], .sub_H),
    ([0x95#8], .sub_L), ([0x96#8], .sub_mHL), ([0x97#8], .sub_A), ([0x98#8], .sbc_A_B), ([0x99#8], .sbc_A_C),
    ([0x9A#8], .sbc_A_D), ([0x9B#8], .sbc_A_E), ([0x9C#8], .sbc_A_H), ([0x9D#8], .sbc_A_L),
    ([0x9E#8], .sbc_A_mHL), ([0x9F#8], .sbc_A_A)] = true := by decide +kernel

theorem test_decode_A0 : decodesAll [
    ([0xA0#8], .and_B), ([0xA1#8], .and_C), ([0xA2#8], .and_D), ([0xA3#8], .and_E), ([0xA4#8], .and_H),
    ([0xA5#8], .and_L), ([0xA6#8], .and_mHL), ([0xA7#8], .and_A), ([0xA8#8], .xor_B), ([0xA9#8], .xor_C),
    ([0xAA#8], .xor_D), ([0xAB#8], .xor_E), ([0xAC#8], .xor_H), ([0xAD#8], .xor_L), ([0xAE#8], .xor_mHL),
    ([0xAF#8], .xor_A)] = true := by decide +kernel

theorem test_decode_B0 : decodesAll [
    ([0xB0#8], .or_B), ([0xB1#8], .or_C), ([0xB2#8], .or_D), ([0xB3#8], .or_E), ([0xB4#8], .or_H),
    ([0xB5#8], .or_L), ([0xB6#8], .or_mHL), ([0xB7#8], .or_A), ([0xB8#8], .cp_B), ([0xB9#8], .cp_C),
    ([0xBA#8], .cp_D), ([0xBB#8], .cp_E), ([0xBC#8], .cp_H), ([0xBD#8], .cp_L), ([0xBE#8], .cp_mHL),
    ([0xBF#8], .cp_A)] = true := by decide +kernel

theorem test_decode_C0 : decodesAll [
    ([0xC0#8], .ret_NZ), ([0xC1#8], .pop_BC), ([0xC2#8, 0x34#8, 0x12#8], .jp_NZ_a16 0x1234#16),
    ([0xC3#8, 0x34#8, 0x12#8], .jp_a16 0x1234#16), ([0xC4#8, 0x34#8, 0x12#8], .call_NZ_a16 0x1234#16),
    ([0xC5#8], .push_BC), ([0xC6#8, 0x9A#8], .add_A_n8 0x9A#8), ([0xC7#8], .rst_00), ([0xC8#8], .ret_Z),
    ([0xC9#8], .ret), ([0xCA#8, 0x34#8, 0x12#8], .jp_Z_a16 0x1234#16), ([0xCB#8, 0x00#8], .rlc_B),
    ([0xCC#8, 0x34#8, 0x12#8], .call_Z_a16 0x1234#16), ([0xCD#8, 0x34#8, 0x12#8], .call_a16 0x1234#16),
    ([0xCE#8, 0x9A#8], .adc_A_n8 0x9A#8), ([0xCF#8], .rst_08)] = true := by decide +kernel

theorem test_decode_D0 : decodesAll [
    ([0xD0#8], .ret_NC), ([0xD1#8], .pop_DE), ([0xD2#8, 0x34#8, 0x12#8], .jp_NC_a16 0x1234#16),
    ([0xD3#8], .undefined_D3), ([0xD4#8, 0x34#8, 0x12#8], .call_NC_a16 0x1234#16), ([0xD5#8], .push_DE),
    ([0xD6#8, 0x9A#8], .sub_n8 0x9A#8), ([0xD7#8], .rst_10), ([0xD8#8], .ret_C), ([0xD9#8], .reti),
    ([0xDA#8, 0x34#8, 0x12#8], .jp_C_a16 0x1234#16), ([0xDB#8], .undefined_DB),
    ([0xDC#8, 0x34#8, 0x12#8], .call_C_a16 0x1234#16), ([0xDD#8], .undefined_DD),
    ([0xDE#8, 0x9A#8], .sbc_A_n8 0x9A#8), ([0xDF#8], .rst_18)] = true := by decide +kernel

theorem test_decode_E0 : decodesAll [
    ([0xE0#8, 0x9A#8], .ldh_ma8_A 0x9A#8), ([0xE1#8], .pop_HL), ([0xE2#8], .ld_mC_A), ([0xE3#8], .undefined_E3),
    ([0xE4#8], .undefined_E4), ([0xE5#8], .push_HL), ([0xE6#8, 0x9A#8], .and_n8 0x9A#8), ([0xE7#8], .rst_20),
    ([0xE8#8, 0x9A#8], .add_SP_e8 0x9A#8), ([0xE9#8], .jp_HL), ([0xEA#8, 0x34#8, 0x12#8], .ld_ma16_A 0x1234#16),
    ([0xEB#8], .undefined_EB), ([0xEC#8], .undefined_EC), ([0xED#8], .undefined_ED),
    ([0xEE#8, 0x9A#8], .xor_n8 0x9A#8), ([0xEF#8], .rst_28)] = true := by decide +kernel

theorem test_decode_F0 : decodesAll [
    ([0xF0#8, 0x9A#8], .ldh_A_ma8 0x9A#8), ([0xF1#8], .pop_AF), ([0xF2#8], .ld_A_mC), ([0xF3#8], .di),
    ([0xF4#8], .undefined_F4), ([0xF5#8], .push_AF), ([0xF6#8, 0x9A#8], .or_n8 0x9A#8), ([0xF7#8], .rst_30),
    ([0xF8#8, 0x9A#8], .ld_HL_SP_e8 0x9A#8), ([0xF9#8], .ld_SP_HL),
    ([0xFA#8, 0x34#8, 0x12#8], .ld_A_ma16 0x1234#16), ([0xFB#8], .ei), ([0xFC#8], .undefined_FC),
    ([0xFD#8], .undefined_FD), ([0xFE#8, 0x9A#8], .cp_n8 0x9A#8), ([0xFF#8], .rst_38)] = true := by decide +kernel

theorem test_decode_cb_00 : decodesAll [
    ([0xCB#8, 0x00#8], .rlc_B), ([0xCB#8, 0x01#8], .rlc_C), ([0xCB#8, 0x02#8], .rlc_D),
    ([0xCB#8, 0x03#8], .rlc_E), ([0xCB#8, 0x04#8], .rlc_H), ([0xCB#8, 0x05#8], .rlc_L),
    ([0xCB#8, 0x06#8], .rlc_mHL), ([0xCB#8, 0x07#8], .rlc_A), ([0xCB#8, 0x08#8], .rrc_B),
    ([0xCB#8, 0x09#8], .rrc_C), ([0xCB#8, 0x0A#8], .rrc_D), ([0xCB#8, 0x0B#8], .rrc_E),
    ([0xCB#8, 0x0C#8], .rrc_H), ([0xCB#8, 0x0D#8], .rrc_L), ([0xCB#8, 0x0E#8], .rrc_mHL),
    ([0xCB#8, 0x0F#8], .rrc_A)] = true := by decide +kernel

theorem test_decode_cb_10 : decodesAll [
    ([0xCB#8, 0x10#8], .rl_B), ([0xCB#8, 0x11#8], .rl_C), ([0xCB#8, 0x12#8], .rl_D), ([0xCB#8, 0x13#8], .rl_E),
    ([0xCB#8, 0x14#8], .rl_H), ([0xCB#8, 0x15#8], .rl_L), ([0xCB#8, 0x16#8], .rl_mHL), ([0xCB#8, 0x17#8], .rl_A),
    ([0xCB#8, 0x18#8], .rr_B), ([0xCB#8, 0x19#8], .rr_C), ([0xCB#8, 0x1A#8], .rr_D), ([0xCB#8, 0x1B#8], .rr_E),
    ([0xCB#8, 0x1C#8], .rr_H), ([0xCB#8, 0x1D#8], .rr_L), ([0xCB#8, 0x1E#8], .rr_mHL), ([0xCB#8, 0x1F#8], .rr_A)] = true := by decide +kernel

theorem test_decode_cb_20 : decodesAll [
    ([0xCB#8, 0x20#8], .sla_B), ([0xCB#8, 0x21#8], .sla_C), ([0xCB#8, 0x22#8], .sla_D),
    ([0xCB#8, 0x23#8], .sla_E), ([0xCB#8, 0x24#8], .sla_H), ([0xCB#8, 0x25#8], .sla_L),
    ([0xCB#8, 0x26#8], .sla_mHL), ([0xCB#8, 0x27#8], .sla_A), ([0xCB#8, 0x28#8], .sra_B),
    ([0xCB#8, 0x29#8], .sra_C), ([0xCB#8, 0x2A#8], .sra_D), ([0xCB#8, 0x2B#8], .sra_E),
    ([0xCB#8, 0x2C#8], .sra_H), ([0xCB#8, 0x2D#8], .sra_L), ([0xCB#8, 0x2E#8], .sra_mHL),
    ([0xCB#8, 0x2F#8], .sra_A)] = true := by decide +kernel

theorem test_decode_cb_30 : decodesAll [
    ([0xCB#8, 0x30#8], .swap_B), ([0xCB#8, 0x31#8], .swap_C), ([0xCB#8, 0x32#8], .swap_D),
    ([0xCB#8, 0x33#8], .swap_E), ([0xCB#8, 0x34#8], .swap_H), ([0xCB#8, 0x35#8], .swap_L),
    ([0xCB#8, 0x36#8], .swap_mHL), ([0xCB#8, 0x37#8], .swap_A), ([0xCB#8, 0x38#8], .srl_B),
    ([0xCB#8, 0x39#8], .srl_C), ([0xCB#8, 0x3A#8], .srl_D), ([0xCB#8, 0x3B#8], .srl_E),
    ([0xCB#8, 0x3C#8], .srl_H), ([0xCB#8, 0x3D#8], .srl_L), ([0xCB#8, 0x3E#8], .srl_mHL),
    ([0xCB#8, 0x3F#8], .srl_A)] = true := by decide +kernel

theorem test_decode_cb_40 : decodesAll [
    ([0xCB#8, 0x40#8], .bit_0_B), ([0xCB#8, 0x41#8], .bit_0_C), ([0xCB#8, 0x42#8], .bit_0_D),
    ([0xCB#8, 0x43#8], .bit_0_E), ([0xCB#8, 0x44#8], .bit_0_H), ([0xCB#8, 0x45#8], .bit_0_L),
    ([0xCB#8, 0x46#8], .bit_0_mHL), ([0xCB#8, 0x47#8], .bit_0_A), ([0xCB#8, 0x48#8], .bit_1_B),
    ([0xCB#8, 0x49#8], .bit_1_C), ([0xCB#8, 0x4A#8], .bit_1_D), ([0xCB#8, 0x4B#8], .bit_1_E),
    ([0xCB#8, 0x4C#8], .bit_1_H), ([0xCB#8, 0x4D#8], .bit_1_L), ([0xCB#8, 0x4E#8], .bit_1_mHL),
    ([0xCB#8, 0x4F#8], .bit_1_A)] = true := by decide +kernel

theorem test_decode_cb_50 : decodesAll [
    ([0xCB#8, 0x50#8], .bit_2_B), ([0xCB#8, 0x51#8], .bit_2_C), ([0xCB#8, 0x52#8], .bit_2_D),
    ([0xCB#8, 0x53#8], .bit_2_E), ([0xCB#8, 0x54#8], .bit_2_H), ([0xCB#8, 0x55#8], .bit_2_L),
    ([0xCB#8, 0x56#8], .bit_2_mHL), ([0xCB#8, 0x57#8], .bit_2_A), ([0xCB#8, 0x58#8], .bit_3_B),
    ([0xCB#8, 0x59#8], .bit_3_C), ([0xCB#8, 0x5A#8], .bit_3_D), ([0xCB#8, 0x5B#8], .bit_3_E),
    ([0xCB#8, 0x5C#8], .bit_3_H), ([0xCB#8, 0x5D#8], .bit_3_L), ([0xCB#8, 0x5E#8], .bit_3_mHL),
    ([0xCB#8, 0x5F#8], .bit_3_A)] = true := by decide +kernel

theorem test_decode_cb_60 : decodesAll [
    ([0xCB#8, 0x60#8], .bit_4_B), ([0xCB#8, 0x61#8], .bit_4_C), ([0xCB#8, 0x62#8], .bit_4_D),
    ([0xCB#8, 0x63#8], .bit_4_E), ([0xCB#8, 0x64#8], .bit_4_H), ([0xCB#8, 0x65#8], .bit_4_L),
    ([0xCB#8, 0x66#8], .bit_4_mHL), ([0xCB#8, 0x67#8], .bit_4_A), ([0xCB#8, 0x68#8], .bit_5_B),
    ([0xCB#8, 0x69#8], .bit_5_C), ([0xCB#8, 0x6A#8], .bit_5_D), ([0xCB#8, 0x6B#8], .bit_5_E),
    ([0xCB#8, 0x6C#8], .bit_5_H), ([0xCB#8, 0x6D#8], .bit_5_L), ([0xCB#8, 0x6E#8], .bit_5_mHL),
    ([0xCB#8, 0x6F#8], .bit_5_A)] = true := by decide +kernel

theorem test_decode_cb_70 : decodesAll [
    ([0xCB#8, 0x70#8], .bit_6_B), ([0xCB#8, 0x71#8], .bit_6_C), ([0xCB#8, 0x72#8], .bit_6_D),
    ([0xCB#8, 0x73#8], .bit_6_E), ([0xCB#8, 0x74#8], .bit_6_H), ([0xCB#8, 0x75#8], .bit_6_L),
    ([0xCB#8, 0x76#8], .bit_6_mHL), ([0xCB#8, 0x77#8], .bit_6_A), ([0xCB#8, 0x78#8], .bit_7_B),
    ([0xCB#8, 0x79#8], .bit_7_C), ([0xCB#8, 0x7A#8], .bit_7_D), ([0xCB#8, 0x7B#8], .bit_7_E),
    ([0xCB#8, 0x7C#8], .bit_7_H), ([0xCB#8, 0x7D#8], .bit_7_L), ([0xCB#8, 0x7E#8], .bit_7_mHL),
    ([0xCB#8, 0x7F#8], .bit_7_A)] = true := by decide +kernel

theorem test_decode_cb_80 : decodesAll [
    ([0xCB#8, 0x80#8], .res_0_B), ([0xCB#8, 0x81#8], .res_0_C), ([0xCB#8, 0x82#8], .res_0_D),
    ([0xCB#8, 0x83#8], .res_0_E), ([0xCB#8, 0x84#8], .res_0_H), ([0xCB#8, 0x85#8], .res_0_L),
    ([0xCB#8, 0x86#8], .res_0_mHL), ([0xCB#8, 0x87#8], .res_0_A), ([0xCB#8, 0x88#8], .res_1_B),
    ([0xCB#8, 0x89#8], .res_1_C), ([0xCB#8, 0x8A#8], .res_1_D), ([0xCB#8, 0x8B#8], .res_1_E),
    ([0xCB#8, 0x8C#8], .res_1_H), ([0xCB#8, 0x8D#8], .res_1_L), ([0xCB#8, 0x8E#8], .res_1_mHL),
    ([0xCB#8, 0x8F#8], .res_1_A)] = true := by decide +kernel

theorem test_decode_cb_90 : decodesAll [
    ([0xCB#8, 0x90#8], .res_2_B), ([0xCB#8, 0x91#8], .res_2_C), ([0xCB#8, 0x92#8], .res_2_D),
    ([0xCB#8, 0x93#8], .res_2_E), ([0xCB#8, 0x94#8], .res_2_H), ([0xCB#8, 0x95#8], .res_2_L),
    ([0xCB#8, 0x96#8], .res_2_mHL), ([0xCB#8, 0x97#8], .res_2_A), ([0xCB#8, 0x98#8], .res_3_B),
    ([0xCB#8, 0x99#8], .res_3_C), ([0xCB#8, 0x9A#8], .res_3_D), ([0xCB#8, 0x9B#8], .res_3_E),
    ([0xCB#8, 0x9C#8], .res_3_H), ([0xCB#8, 0x9D#8], .res_3_L), ([0xCB#8, 0x9E#8], .res_3_mHL),
    ([0xCB#8, 0x9F#8], .res_3_A)] = true := by decide +kernel

theorem test_decode_cb_A0 : decodesAll [
    ([0xCB#8, 0xA0#8], .res_4_B), ([0xCB#8, 0xA1#8], .res_4_C), ([0xCB#8, 0xA2#8], .res_4_D),
    ([0xCB#8, 0xA3#8], .res_4_E), ([0xCB#8, 0xA4#8], .res_4_H), ([0xCB#8, 0xA5#8], .res_4_L),
    ([0xCB#8, 0xA6#8], .res_4_mHL), ([0xCB#8, 0xA7#8], .res_4_A), ([0xCB#8, 0xA8#8], .res_5_B),
    ([0xCB#8, 0xA9#8], .res_5_C), ([0xCB#8, 0xAA#8], .res_5_D), ([0xCB#8, 0xAB#8], .res_5_E),
    ([0xCB#8, 0xAC#8], .res_5_H), ([0xCB#8, 0xAD#8], .res_5_L), ([0xCB#8, 0xAE#8], .res_5_mHL),
    ([0xCB#8, 0xAF#8], .res_5_A)] = true := by decide +kernel

theorem test_decode_cb_B0 : decodesAll [
    ([0xCB#8, 0xB0#8], .res_6_B), ([0xCB#8, 0xB1#8], .res_6_C), ([0xCB#8, 0xB2#8], .res_6_D),
    ([0xCB#8, 0xB3#8], .res_6_E), ([0xCB#8, 0xB4#8], .res_6_H), ([0xCB#8, 0xB5#8], .res_6_L),
    ([0xCB#8, 0xB6#8], .res_6_mHL), ([0xCB#8, 0xB7#8], .res_6_A), ([0xCB#8, 0xB8#8], .res_7_B),
    ([0xCB#8, 0xB9#8], .res_7_C), ([0xCB#8, 0xBA#8], .res_7_D), ([0xCB#8, 0xBB#8], .res_7_E),
    ([0xCB#8, 0xBC#8], .res_7_H), ([0xCB#8, 0xBD#8], .res_7_L), ([0xCB#8, 0xBE#8], .res_7_mHL),
    ([0xCB#8, 0xBF#8], .res_7_A)] = true := by decide +kernel

theorem test_decode_cb_C0 : decodesAll [
    ([0xCB#8, 0xC0#8], .set_0_B), ([0xCB#8, 0xC1#8], .set_0_C), ([0xCB#8, 0xC2#8], .set_0_D),
    ([0xCB#8, 0xC3#8], .set_0_E), ([0xCB#8, 0xC4#8], .set_0_H), ([0xCB#8, 0xC5#8], .set_0_L),
    ([0xCB#8, 0xC6#8], .set_0_mHL), ([0xCB#8, 0xC7#8], .set_0_A), ([0xCB#8, 0xC8#8], .set_1_B),
    ([0xCB#8, 0xC9#8], .set_1_C), ([0xCB#8, 0xCA#8], .set_1_D), ([0xCB#8, 0xCB#8], .set_1_E),
    ([0xCB#8, 0xCC#8], .set_1_H), ([0xCB#8, 0xCD#8], .set_1_L), ([0xCB#8, 0xCE#8], .set_1_mHL),
    ([0xCB#8, 0xCF#8], .set_1_A)] = true := by decide +kernel

theorem test_decode_cb_D0 : decodesAll [
    ([0xCB#8, 0xD0#8], .set_2_B), ([0xCB#8, 0xD1#8], .set_2_C), ([0xCB#8, 0xD2#8], .set_2_D),
    ([0xCB#8, 0xD3#8], .set_2_E), ([0xCB#8, 0xD4#8], .set_2_H), ([0xCB#8, 0xD5#8], .set_2_L),
    ([0xCB#8, 0xD6#8], .set_2_mHL), ([0xCB#8, 0xD7#8], .set_2_A), ([0xCB#8, 0xD8#8], .set_3_B),
    ([0xCB#8, 0xD9#8], .set_3_C), ([0xCB#8, 0xDA#8], .set_3_D), ([0xCB#8, 0xDB#8], .set_3_E),
    ([0xCB#8, 0xDC#8], .set_3_H), ([0xCB#8, 0xDD#8], .set_3_L), ([0xCB#8, 0xDE#8], .set_3_mHL),
    ([0xCB#8, 0xDF#8], .set_3_A)] = true := by decide +kernel

theorem test_decode_cb_E0 : decodesAll [
    ([0xCB#8, 0xE0#8], .set_4_B), ([0xCB#8, 0xE1#8], .set_4_C), ([0xCB#8, 0xE2#8], .set_4_D),
    ([0xCB#8, 0xE3#8], .set_4_E), ([0xCB#8, 0xE4#8], .set_4_H), ([0xCB#8, 0xE5#8], .set_4_L),
    ([0xCB#8, 0xE6#8], .set_4_mHL), ([0xCB#8, 0xE7#8], .set_4_A), ([0xCB#8, 0xE8#8], .set_5_B),
    ([0xCB#8, 0xE9#8], .set_5_C), ([0xCB#8, 0xEA#8], .set_5_D), ([0xCB#8, 0xEB#8], .set_5_E),
    ([0xCB#8, 0xEC#8], .set_5_H), ([0xCB#8, 0xED#8], .set_5_L), ([0xCB#8, 0xEE#8], .set_5_mHL),
    ([0xCB#8, 0xEF#8], .set_5_A)] = true := by decide +kernel

theorem test_decode_cb_F0 : decodesAll [
    ([0xCB#8, 0xF0#8], .set_6_B), ([0xCB#8, 0xF1#8], .set_6_C), ([0xCB#8, 0xF2#8], .set_6_D),
    ([0xCB#8, 0xF3#8], .set_6_E), ([0xCB#8, 0xF4#8], .set_6_H), ([0xCB#8, 0xF5#8], .set_6_L),
    ([0xCB#8, 0xF6#8], .set_6_mHL), ([0xCB#8, 0xF7#8], .set_6_A), ([0xCB#8, 0xF8#8], .set_7_B),
    ([0xCB#8, 0xF9#8], .set_7_C), ([0xCB#8, 0xFA#8], .set_7_D), ([0xCB#8, 0xFB#8], .set_7_E),
    ([0xCB#8, 0xFC#8], .set_7_H), ([0xCB#8, 0xFD#8], .set_7_L), ([0xCB#8, 0xFE#8], .set_7_mHL),
    ([0xCB#8, 0xFF#8], .set_7_A)] = true := by decide +kernel

/-! ### 8-bit loads (95_test_vectors.md section 2.1) -/

/-- V-LD8-1, V-LD8-2. -/
theorem test_ld_reg :
    (after { base with b := 0x12#8 } [0x78#8]).map (fun t => (t.a, t.pc, t.cycles)) = some (0x12#8, 0x0201#16, 1) ∧
    (after { base with h := 0x11#8, l := 0x22#8 } [0x65#8]).map (fun t => (t.hl, t.cycles)) = some (0x2222#16, 1) := by decide +kernel

/-- V-LD8-3. -/
theorem test_ld_from_hl :
    (after (poke { base with h := 0xC0#8, l := 0x00#8 } 0xC000 0x5A#8) [0x5E#8]).map
      (fun t => (t.e, t.cycles)) =
      some (0x5A#8, 2) := by decide +kernel

/-- V-LD8-4. -/
theorem test_ld_to_hl :
    (after { base with h := 0xFF#8, l := 0x80#8, a := 0x99#8 } [0x77#8]).map
      (fun t => (rd t 0xFF80#16, t.cycles)) =
      some (some 0x99#8, 2) := by decide +kernel

/-- V-LD8-5. -/
theorem test_ld_imm :
    (after base [0x3E#8, 0x7F#8]).map (fun t => (t.a, t.pc, t.cycles)) = some (0x7F#8, 0x0202#16, 2) := by decide +kernel

/-- V-LD8-6. -/
theorem test_ld_hl_imm :
    (after { base with h := 0xC0#8, l := 0x10#8 } [0x36#8, 0xAB#8]).map
      (fun t => (rd t 0xC010#16, t.cycles)) =
      some (some 0xAB#8, 3) := by decide +kernel

/-- V-LD8-7. -/
theorem test_ld_hl_imm_rom :
    (after { base with h := 0x01#8, l := 0x00#8 } [0x36#8, 0x55#8]).map
      (fun t => (rd t 0x0100#16, t.cycles)) =
      some (some 0x00#8, 3) := by decide +kernel

/-- R105 example. -/
theorem test_ld_a_bc :
    (after (poke { base with b := 0xC1#8, c := 0x00#8 } 0xC100 0x01#8) [0x0A#8]).map
      (fun t => (t.a, t.cycles)) =
      some (0x01#8, 2) := by decide +kernel

/-- R107 with an echo address. -/
theorem test_ld_bc_a :
    (after { base with b := 0xE1#8, c := 0x00#8, a := 0x33#8 } [0x02#8]).map
      (fun t => (rd t 0xC100#16, t.cycles)) =
      some (some 0x33#8, 2) := by decide +kernel

/-- V-LD8-8. -/
theorem test_ld_a_de_echo :
    (after (poke { base with d := 0xE1#8, e := 0x00#8 } 0xC100 0x42#8) [0x1A#8]).map (fun t => t.a) = some 0x42#8 := by decide +kernel

/-- V-LD8-9. -/
theorem test_ld_de_a_prohibited :
    (after { base with d := 0xFE#8, e := 0xA0#8, a := 0x11#8 } [0x12#8]).map
      (fun t => rd t 0xFEA0#16) =
      some (some 0xFF#8) := by decide +kernel

/-- V-LD8-10. -/
theorem test_ld_a16_a :
    (after { base with a := 0x80#8 } [0xEA#8, 0x26#8, 0xFF#8]).map
      (fun t => (rd t 0xFF26#16, handleVersion t 0xFF26#16, t.cycles)) =
      some (some 0x80#8, 1, 4) := by decide +kernel

/-- R111 at the reset value of NR51. -/
theorem test_ldh_a_a8 :
    (after base [0xF0#8, 0x25#8]).map (fun t => (t.a, t.cycles)) = some (0xF3#8, 3) := by decide +kernel

/-- R112 into IE. -/
theorem test_ldh_a8_a :
    (after { base with a := 0x1F#8 } [0xE0#8, 0xFF#8]).map
      (fun t => (handleValue t ioIE, t.cycles)) =
      some (0x1F#8, 3) := by decide +kernel

/-- R113 at the reset value of NR50. -/
theorem test_ld_a_c :
    (after { base with c := 0x24#8 } [0xF2#8]).map (fun t => (t.a, t.cycles)) = some (0x77#8, 2) := by decide +kernel

/-- V-LD8-11. -/
theorem test_ld_c_a :
    (after { base with a := 0x1F#8, c := 0xFF#8 } [0xE2#8]).map
      (fun t => (handleValue t ioIE, t.cycles)) =
      some (0x1F#8, 2) := by decide +kernel

/-- V-LD8-12. -/
theorem test_ld_hli_a :
    (after { base with h := 0xFF#8, l := 0xFF#8, a := 0x5A#8 } [0x22#8]).map
      (fun t => (rd t 0xFFFF#16, t.hl, t.cycles)) =
      some (some 0x5A#8, 0x0000#16, 2) := by decide +kernel

/-- R116. -/
theorem test_ld_hld_a :
    (after { base with h := 0xC0#8, l := 0x00#8, a := 0x5A#8 } [0x32#8]).map
      (fun t => (rd t 0xC000#16, t.hl, t.cycles)) =
      some (some 0x5A#8, 0xBFFF#16, 2) := by decide +kernel

/-- R117. -/
theorem test_ld_a_hli :
    (after (poke { base with h := 0xC0#8, l := 0xFF#8 } 0xC0FF 0x66#8) [0x2A#8]).map
      (fun t => (t.a, t.hl, t.cycles)) =
      some (0x66#8, 0xC100#16, 2) := by decide +kernel

/-- V-LD8-13, V-LD8-14. -/
theorem test_ld_a_hld :
    (after (poke { base with h := 0xE0#8, l := 0x00#8 } 0xC000 0x77#8) [0x3A#8]).map
      (fun t => (t.a, t.hl, t.cycles)) =
      some (0x77#8, 0xDFFF#16, 2) ∧
    (after { base with h := 0xFE#8, l := 0xA0#8 } [0x3A#8]).map (fun t => (t.a, t.hl)) = some (0xFF#8, 0xFE9F#16) := by decide +kernel

/-- V-LD8-15. -/
theorem test_ld_a_a16 :
    (after base [0xFA#8, 0x00#8, 0xA0#8]).map (fun t => (t.a, t.cycles)) = some (0xFF#8, 4) := by decide +kernel

/-! ### 16-bit loads and the stack (section 2.2) -/

/-- S1. -/
theorem test_ld_bc_n16 :
    (after { base with pc := 0x0100#16 } [0x01#8, 0x34#8, 0x12#8]).map
      (fun t => (t.bc, t.pc, t.cycles)) =
      some (0x1234#16, 0x0103#16, 3) := by decide +kernel

/-- V-LD16-1. -/
theorem test_ld_a16_sp :
    (after { base with sp := 0xABCD#16 } [0x08#8, 0x00#8, 0xC0#8]).map
      (fun t => (rd t 0xC000#16, rd t 0xC001#16, t.cycles)) =
      some (some 0xCD#8, some 0xAB#8, 5) := by decide +kernel

/-- V-LD16-2. -/
theorem test_ld_sp_hl :
    (after { base with h := 0xDF#8, l := 0xF0#8 } [0xF9#8]).map (fun t => (t.sp, t.cycles)) = some (0xDFF0#16, 2) := by decide +kernel

/-- V-LD16-3, V-LD16-4. -/
theorem test_ld_hl_sp_e8 :
    (after { base with sp := 0xFFF8#16, f := 0x00#8 } [0xF8#8, 0x08#8]).map
      (fun t => (t.hl, t.f, t.cycles)) =
      some (0x0000#16, 0x30#8, 3) ∧
    (after { base with sp := 0x0000#16, f := 0xF0#8 } [0xF8#8, 0xFE#8]).map
      (fun t => (t.hl, t.f, t.cycles)) =
      some (0xFFFE#16, 0x00#8, 3) := by decide +kernel

/-- V-LD16-5. -/
theorem test_push_af :
    (after { base with a := 0x12#8, f := 0xB0#8 } [0xF5#8]).map
      (fun t => (t.sp, rd t 0xFFFC#16, rd t 0xFFFD#16, t.cycles)) =
      some (0xFFFC#16, some 0xB0#8, some 0x12#8, 4) := by decide +kernel

/-- V-LD16-6. -/
theorem test_pop_de :
    (after (poke (poke { base with sp := 0xFFFC#16 } 0xFFFC 0x34#8) 0xFFFD 0x12#8) [0xD1#8]).map
      (fun t => (t.de, t.sp, t.cycles)) =
      some (0x1234#16, 0xFFFE#16, 3) := by decide +kernel

/-- V-LD16-7, Q1. -/
theorem test_pop_af :
    (after (poke (poke { base with sp := 0xFFFC#16 } 0xFFFC 0x0F#8) 0xFFFD 0x99#8) [0xF1#8]).map
      (fun t => (t.af, t.sp, t.cycles)) =
      some (0x9900#16, 0xFFFE#16, 3) := by decide +kernel

/-! ### 8-bit arithmetic and logic (section 2.3) -/

/-- V-ALU8-1. -/
theorem test_add_r :
    (after { base with a := 0x3A#8, b := 0xC6#8 } [0x80#8]).map (fun t => (t.a, t.f)) = some (0x00#8, 0xB0#8) := by decide +kernel

/-- V-ALU8-2, V-ALU8-3. -/
theorem test_add_n8 :
    (after { base with a := 0x0F#8, f := 0x00#8 } [0xC6#8, 0x01#8]).map
      (fun t => (t.a, t.f, t.cycles)) =
      some (0x10#8, 0x20#8, 2) ∧
    (after { base with a := 0xF0#8, f := 0x00#8 } [0xC6#8, 0x10#8]).map
      (fun t => (t.a, t.f)) =
      some (0x00#8, 0x90#8) := by decide +kernel

/-- V-ALU8-6. -/
theorem test_adc_r :
    (after { base with a := 0xE1#8, e := 0x0F#8, f := 0x10#8 } [0x8B#8]).map
      (fun t => (t.a, t.f)) =
      some (0xF1#8, 0x20#8) := by decide +kernel

/-- V-ALU8-4, V-ALU8-5. -/
theorem test_adc_n8 :
    (after { base with a := 0x0F#8, f := 0x10#8 } [0xCE#8, 0x00#8]).map
      (fun t => (t.a, t.f)) =
      some (0x10#8, 0x20#8) ∧
    (after { base with a := 0xFF#8, f := 0x10#8 } [0xCE#8, 0xFF#8]).map
      (fun t => (t.a, t.f)) =
      some (0xFF#8, 0x30#8) := by decide +kernel

/-- V-ALU8-8. -/
theorem test_sub_r :
    (after { base with a := 0x3E#8, e := 0x3E#8 } [0x93#8]).map (fun t => (t.a, t.f)) = some (0x00#8, 0xC0#8) := by decide +kernel

/-- V-ALU8-7. -/
theorem test_sub_n8 :
    (after { base with a := 0x00#8, f := 0x00#8 } [0xD6#8, 0x01#8]).map
      (fun t => (t.a, t.f)) =
      some (0xFF#8, 0x70#8) := by decide +kernel

/-- V-ALU8-11. -/
theorem test_sbc_r :
    (after { base with a := 0x3B#8, h := 0x2A#8, f := 0x10#8 } [0x9C#8]).map
      (fun t => (t.a, t.f)) =
      some (0x10#8, 0x40#8) := by decide +kernel

/-- V-ALU8-9, V-ALU8-10. -/
theorem test_sbc_n8 :
    (after { base with a := 0x00#8, f := 0x10#8 } [0xDE#8, 0x00#8]).map
      (fun t => (t.a, t.f)) =
      some (0xFF#8, 0x70#8) ∧
    (after { base with a := 0x10#8, f := 0x10#8 } [0xDE#8, 0x0F#8]).map
      (fun t => (t.a, t.f)) =
      some (0x00#8, 0xE0#8) := by decide +kernel

/-- V-ALU8-12. -/
theorem test_and_r :
    (after { base with a := 0x5A#8, l := 0x3F#8 } [0xA5#8]).map (fun t => (t.a, t.f)) = some (0x1A#8, 0x20#8) := by decide +kernel

/-- V-ALU8-13. -/
theorem test_and_hl :
    (after (poke { base with a := 0x5A#8, h := 0xC0#8, l := 0x00#8 } 0xC000 0x00#8) [0xA6#8]).map
      (fun t => (t.a, t.f, t.cycles)) =
      some (0x00#8, 0xA0#8, 2) := by decide +kernel

/-- S4. -/
theorem test_xor_a :
    (after { base with a := 0x3C#8 } [0xAF#8]).map (fun t => (t.a, t.f, t.cycles)) = some (0x00#8, 0x80#8, 1) := by decide +kernel

/-- V-ALU8-14. -/
theorem test_xor_hl :
    (after (poke { base with a := 0xFF#8, h := 0xC0#8, l := 0x00#8 } 0xC000 0x8A#8) [0xAE#8]).map
      (fun t => (t.a, t.f)) =
      some (0x75#8, 0x00#8) := by decide +kernel

/-- V-ALU8-15. -/
theorem test_or_a :
    (after { base with a := 0x5A#8 } [0xB7#8]).map (fun t => (t.a, t.f)) = some (0x5A#8, 0x00#8) := by decide +kernel

/-- V-ALU8-17. -/
theorem test_cp_hl :
    (after (poke { base with a := 0x3C#8, h := 0xC0#8, l := 0x00#8 } 0xC000 0x40#8) [0xBE#8]).map
      (fun t => (t.a, t.f)) =
      some (0x3C#8, 0x50#8) := by decide +kernel

/-- V-ALU8-16. -/
theorem test_cp_n8 :
    (after { base with a := 0x42#8, f := 0x00#8 } [0xFE#8, 0x42#8]).map
      (fun t => (t.a, t.f)) =
      some (0x42#8, 0xC0#8) := by decide +kernel

/-- S2. -/
theorem test_inc_b :
    (after { base with b := 0xFF#8, f := 0x00#8 } [0x04#8]).map
      (fun t => (t.b, t.f, t.cycles)) =
      some (0x00#8, 0xA0#8, 1) := by decide +kernel

/-- V-ALU8-18. -/
theorem test_inc_a :
    (after { base with a := 0x0F#8, f := 0x10#8 } [0x3C#8]).map (fun t => (t.a, t.f)) = some (0x10#8, 0x30#8) := by decide +kernel

/-- R175 corner case. -/
theorem test_inc_hl :
    (after { base with h := 0xFE#8, l := 0xA0#8, f := 0x00#8 } [0x34#8]).map
      (fun t => (t.f, rd t 0xFEA0#16, t.cycles)) =
      some (0xA0#8, some 0xFF#8, 3) := by decide +kernel

/-- V-ALU8-19, V-ALU8-20. -/
theorem test_dec_a :
    (after { base with a := 0x10#8, f := 0x00#8 } [0x3D#8]).map (fun t => (t.a, t.f)) = some (0x0F#8, 0x60#8) ∧
    (after { base with a := 0x00#8, f := 0x80#8 } [0x3D#8]).map (fun t => (t.a, t.f)) = some (0xFF#8, 0x60#8) := by decide +kernel

/-- V-ALU8-21. -/
theorem test_dec_hl :
    (after (poke { base with h := 0xC0#8, l := 0x00#8, f := 0x00#8 } 0xC000 0x00#8) [0x35#8]).map
      (fun t => (rd t 0xC000#16, t.f, t.cycles)) =
      some (some 0xFF#8, 0x60#8, 3) := by decide +kernel

/-- V-ALU8-22, V-ALU8-24, V-ALU8-25, V-ALU8-26. -/
theorem test_daa_add :
    (after { base with a := 0x7D#8, f := 0x00#8 } [0x27#8]).map (fun t => (t.a, t.f)) = some (0x83#8, 0x00#8) ∧
    (after { base with a := 0x9A#8, f := 0x00#8 } [0x27#8]).map (fun t => (t.a, t.f)) = some (0x00#8, 0x90#8) ∧
    (after { base with a := 0x00#8, f := 0x20#8 } [0x27#8]).map (fun t => (t.a, t.f)) = some (0x06#8, 0x00#8) ∧
    (after { base with a := 0x00#8, f := 0x10#8 } [0x27#8]).map (fun t => (t.a, t.f)) = some (0x60#8, 0x10#8) := by decide +kernel

/-- V-ALU8-23, V-ALU8-27. -/
theorem test_daa_sub :
    (after { base with a := 0x4B#8, f := 0x60#8 } [0x27#8]).map (fun t => (t.a, t.f)) = some (0x45#8, 0x40#8) ∧
    (after { base with a := 0x00#8, f := 0x70#8 } [0x27#8]).map (fun t => (t.a, t.f)) = some (0x9A#8, 0x50#8) := by decide +kernel

/-- V-ALU8-28. -/
theorem test_cpl :
    (after { base with a := 0x00#8, f := 0x90#8 } [0x2F#8]).map (fun t => (t.a, t.f)) = some (0xFF#8, 0xF0#8) := by decide +kernel

/-- V-ALU8-29. -/
theorem test_scf :
    (after { base with f := 0xE0#8 } [0x37#8]).map (fun t => t.f) = some 0x90#8 := by decide +kernel

/-- V-ALU8-30. -/
theorem test_ccf :
    (after { base with f := 0x10#8 } [0x3F#8]).map (fun t => t.f) = some 0x00#8 := by decide +kernel

/-! ### 16-bit arithmetic (section 2.4) -/

/-- V-ALU16-1. -/
theorem test_add_hl_bc :
    (after { base with h := 0x8A#8, l := 0x23#8, b := 0x06#8, c := 0x05#8, f := 0x00#8 } [0x09#8]).map
      (fun t => (t.hl, t.f, t.cycles)) =
      some (0x9028#16, 0x20#8, 2) := by decide +kernel

/-- V-ALU16-2. -/
theorem test_add_hl_hl :
    (after { base with h := 0x8A#8, l := 0x23#8, f := 0x00#8 } [0x29#8]).map
      (fun t => (t.hl, t.f)) =
      some (0x1446#16, 0x30#8) := by decide +kernel

/-- V-ALU16-3. -/
theorem test_add_hl_de :
    (after { base with h := 0x0F#8, l := 0xFF#8, d := 0x00#8, e := 0x01#8, f := 0x80#8 } [0x19#8]).map
      (fun t => (t.hl, t.f)) =
      some (0x1000#16, 0xA0#8) := by decide +kernel

/-- V-ALU16-4. -/
theorem test_add_hl_sp :
    (after { base with h := 0x80#8, l := 0x00#8, sp := 0x8000#16, f := 0x00#8 } [0x39#8]).map
      (fun t => (t.hl, t.f)) =
      some (0x0000#16, 0x10#8) := by decide +kernel

/-- V-ALU16-5. -/
theorem test_inc_sp :
    (after { base with sp := 0xFFFF#16, f := 0xF0#8 } [0x33#8]).map
      (fun t => (t.sp, t.f, t.cycles)) =
      some (0x0000#16, 0xF0#8, 2) := by decide +kernel

/-- V-ALU16-6. -/
theorem test_dec_bc :
    (after { base with b := 0x00#8, c := 0x00#8, f := 0xF0#8 } [0x0B#8]).map
      (fun t => (t.bc, t.f)) =
      some (0xFFFF#16, 0xF0#8) := by decide +kernel

/-- V-ALU16-7, V-ALU16-8. -/
theorem test_add_sp_e8 :
    (after { base with sp := 0x0000#16, f := 0x00#8 } [0xE8#8, 0xFF#8]).map
      (fun t => (t.sp, t.f, t.cycles)) =
      some (0xFFFF#16, 0x00#8, 4) ∧
    (after { base with sp := 0x0001#16, f := 0x00#8 } [0xE8#8, 0xFF#8]).map
      (fun t => (t.sp, t.f)) =
      some (0x0000#16, 0x30#8) := by decide +kernel

/-- V-ALU16-9. -/
theorem test_add_sp_e8_pos :
    (after { base with sp := 0xFFF8#16 } [0xE8#8, 0x02#8]).map (fun t => (t.sp, t.f)) = some (0xFFFA#16, 0x00#8) := by decide +kernel

/-! ### Rotates and shifts (section 2.5) -/

/-- S3. -/
theorem test_rlca :
    (after { base with a := 0x85#8, f := 0x00#8 } [0x07#8]).map
      (fun t => (t.a, t.f, t.cycles)) =
      some (0x0B#8, 0x10#8, 1) := by decide +kernel

/-- V-ROT-1, V-ROT-2. -/
theorem test_rrca :
    (after { base with a := 0x3B#8 } [0x0F#8]).map (fun t => (t.a, t.f)) = some (0x9D#8, 0x10#8) ∧
    (after { base with a := 0x00#8, f := 0x80#8 } [0x0F#8]).map (fun t => (t.a, t.f)) = some (0x00#8, 0x00#8) := by decide +kernel

/-- V-ROT-3. -/
theorem test_rla :
    (after { base with a := 0x00#8, f := 0x10#8 } [0x17#8]).map (fun t => (t.a, t.f)) = some (0x01#8, 0x00#8) := by decide +kernel

/-- V-ROT-4. -/
theorem test_rra :
    (after { base with a := 0x81#8, f := 0x00#8 } [0x1F#8]).map (fun t => (t.a, t.f)) = some (0x40#8, 0x10#8) := by decide +kernel

/-- V-ROT-5. -/
theorem test_rlc_a :
    (after { base with a := 0x80#8 } [0xCB#8, 0x07#8]).map
      (fun t => (t.a, t.f, t.pc, t.cycles)) =
      some (0x01#8, 0x10#8, 0x0202#16, 2) := by decide +kernel

/-- V-ROT-6. -/
theorem test_rlc_hl :
    (after (poke { base with h := 0xC0#8, l := 0x00#8 } 0xC000 0x00#8) [0xCB#8, 0x06#8]).map
      (fun t => (rd t 0xC000#16, t.f, t.cycles)) =
      some (some 0x00#8, 0x80#8, 4) := by decide +kernel

/-- V-ROT-7. -/
theorem test_rrc_c :
    (after { base with c := 0x01#8 } [0xCB#8, 0x09#8]).map (fun t => (t.c, t.f)) = some (0x80#8, 0x10#8) := by decide +kernel

/-- V-ROT-8. -/
theorem test_rl_l :
    (after { base with l := 0x80#8, f := 0x00#8 } [0xCB#8, 0x15#8]).map
      (fun t => (t.l, t.f)) =
      some (0x00#8, 0x90#8) := by decide +kernel

/-- V-ROT-9. -/
theorem test_rr_a :
    (after { base with a := 0x01#8, f := 0x00#8 } [0xCB#8, 0x1F#8]).map
      (fun t => (t.a, t.f)) =
      some (0x00#8, 0x90#8) := by decide +kernel

/-- V-ROT-10. -/
theorem test_rr_hl :
    (after (poke { base with h := 0xC0#8, l := 0x00#8, f := 0x00#8 } 0xC000 0x8A#8) [0xCB#8, 0x1E#8]).map
      (fun t => (rd t 0xC000#16, t.f, t.cycles)) =
      some (some 0x45#8, 0x00#8, 4) := by decide +kernel

/-- V-ROT-11. -/
theorem test_sla_d :
    (after { base with d := 0x80#8 } [0xCB#8, 0x22#8]).map (fun t => (t.d, t.f)) = some (0x00#8, 0x90#8) := by decide +kernel

/-- V-ROT-12. -/
theorem test_sra_b :
    (after { base with b := 0x80#8 } [0xCB#8, 0x28#8]).map (fun t => (t.b, t.f)) = some (0xC0#8, 0x00#8) := by decide +kernel

/-- V-ROT-13. -/
theorem test_swap_b :
    (after { base with b := 0x12#8, f := 0x10#8 } [0xCB#8, 0x30#8]).map
      (fun t => (t.b, t.f)) =
      some (0x21#8, 0x00#8) := by decide +kernel

/-- V-ROT-14. -/
theorem test_swap_hl :
    (after (poke { base with h := 0xC0#8, l := 0x00#8 } 0xC000 0xF0#8) [0xCB#8, 0x36#8]).map
      (fun t => (rd t 0xC000#16, t.f, t.cycles)) =
      some (some 0x0F#8, 0x00#8, 4) := by decide +kernel

/-- V-ROT-15. -/
theorem test_srl_hl :
    (after (poke { base with h := 0xC0#8, l := 0x00#8 } 0xC000 0xFF#8) [0xCB#8, 0x3E#8]).map
      (fun t => (rd t 0xC000#16, t.f, t.cycles)) =
      some (some 0x7F#8, 0x10#8, 4) := by decide +kernel

/-! ### Bits (section 2.6) -/

/-- V-BIT-1. -/
theorem test_bit_7_h :
    (after { base with h := 0x80#8, f := 0x10#8 } [0xCB#8, 0x7C#8]).map
      (fun t => (t.f, t.cycles)) =
      some (0x30#8, 2) := by decide +kernel

/-- V-BIT-2. -/
theorem test_bit_7_a :
    (after { base with a := 0x7F#8, f := 0x10#8 } [0xCB#8, 0x7F#8]).map (fun t => t.f) = some 0xB0#8 := by decide +kernel

/-- V-BIT-3. -/
theorem test_bit_3_hl :
    (after (poke { base with h := 0xC0#8, l := 0x00#8, f := 0x00#8 } 0xC000 0x00#8) [0xCB#8, 0x5E#8]).map
      (fun t => (t.f, t.cycles)) =
      some (0xA0#8, 3) := by decide +kernel

/-- V-BIT-4. -/
theorem test_res_7_h :
    (after { base with h := 0xFF#8, f := 0x00#8 } [0xCB#8, 0xBC#8]).map
      (fun t => (t.h, t.f, t.cycles)) =
      some (0x7F#8, 0x00#8, 2) := by decide +kernel

/-- V-BIT-5. -/
theorem test_res_0_hl :
    (after (poke { base with h := 0xC0#8, l := 0x00#8 } 0xC000 0xFF#8) [0xCB#8, 0x86#8]).map
      (fun t => (rd t 0xC000#16, t.cycles)) =
      some (some 0xFE#8, 4) := by decide +kernel

/-- V-BIT-6. -/
theorem test_set_0_a :
    (after { base with a := 0x00#8, f := 0x50#8 } [0xCB#8, 0xC7#8]).map
      (fun t => (t.a, t.f)) =
      some (0x01#8, 0x50#8) := by decide +kernel

/-- V-BIT-7, and a handle's version (R243). -/
theorem test_set_7_hl :
    (after (poke { base with h := 0xFF#8, l := 0x14#8 } 0xFF14 0x00#8) [0xCB#8, 0xFE#8]).map
      (fun t => (rd t 0xFF14#16, handleVersion t 0xFF14#16, t.cycles)) =
      some (some 0x80#8, 1, 4) := by decide +kernel

/-! ### Control transfer (section 2.7) -/

/-- V-CTL-1. -/
theorem test_jp :
    (after { base with pc := 0x0100#16 } [0xC3#8, 0x50#8, 0x01#8]).map
      (fun t => (t.pc, t.cycles)) =
      some (0x0150#16, 4) := by decide +kernel

/-- V-CTL-2, V-CTL-3. -/
theorem test_jp_cc :
    (after { base with f := 0x10#8 } [0xDA#8, 0x00#8, 0x40#8]).map (fun t => (t.pc, t.cycles)) = some (0x4000#16, 4) ∧
    (after { base with f := 0x80#8, pc := 0x0100#16 } [0xC2#8, 0x00#8, 0x20#8]).map
      (fun t => (t.pc, t.cycles)) =
      some (0x0103#16, 3) := by decide +kernel

/-- V-CTL-4. -/
theorem test_jp_hl :
    (after { base with h := 0xC0#8, l := 0x00#8 } [0xE9#8]).map (fun t => (t.pc, t.cycles)) = some (0xC000#16, 1) := by decide +kernel

/-- V-CTL-5, V-CTL-6. -/
theorem test_jr :
    (after base [0x18#8, 0x7F#8]).map (fun t => (t.pc, t.cycles)) = some (0x0281#16, 3) ∧
    (after base [0x18#8, 0x80#8]).map (fun t => (t.pc, t.cycles)) = some (0x0182#16, 3) := by decide +kernel

/-- V-CTL-7. -/
theorem test_jr_wrap :
    (after { base with pc := 0xFFFE#16 } [0x18#8, 0x00#8]).map (fun t => (t.pc, t.cycles)) = some (0x0000#16, 3) := by decide +kernel

/-- V-CTL-8, V-CTL-9. -/
theorem test_jr_cc :
    (after { base with f := 0x00#8, pc := 0x0300#16 } [0x20#8, 0xFE#8]).map
      (fun t => (t.pc, t.cycles)) =
      some (0x0300#16, 3) ∧
    (after { base with f := 0x80#8, pc := 0x0300#16 } [0x20#8, 0xFE#8]).map
      (fun t => (t.pc, t.cycles)) =
      some (0x0302#16, 2) := by decide +kernel

/-- V-CTL-10. -/
theorem test_call :
    (after { base with sp := 0xFFFE#16, pc := 0x0150#16 } [0xCD#8, 0x34#8, 0x12#8]).map
      (fun t => (t.sp, rd t 0xFFFC#16, rd t 0xFFFD#16, t.pc, t.cycles)) =
      some (0xFFFC#16, some 0x53#8, some 0x01#8, 0x1234#16, 6) := by decide +kernel

/-- V-CTL-11. -/
theorem test_call_cc :
    (after { base with f := 0x00#8 } [0xCC#8, 0x00#8, 0x40#8]).map
      (fun t => (t.pc, t.sp, t.cycles)) =
      some (0x0203#16, 0xFFFE#16, 3) := by decide +kernel

/-- V-CTL-12. -/
theorem test_ret :
    (after (poke (poke { base with sp := 0xFFFC#16 } 0xFFFC 0x53#8) 0xFFFD 0x01#8) [0xC9#8]).map
      (fun t => (t.pc, t.sp, t.cycles)) =
      some (0x0153#16, 0xFFFE#16, 4) := by decide +kernel

/-- V-CTL-13, V-CTL-14. -/
theorem test_ret_cc :
    (after (poke (poke { base with f := 0x00#8, sp := 0xFFFC#16 } 0xFFFC 0x34#8) 0xFFFD 0x12#8) [0xD0#8]).map
      (fun t => (t.pc, t.sp, t.cycles)) =
      some (0x1234#16, 0xFFFE#16, 5) ∧
    (after (poke (poke { base with f := 0x80#8, sp := 0xFFFC#16 } 0xFFFC 0x53#8) 0xFFFD 0x01#8) [0xC0#8]).map
      (fun t => (t.pc, t.sp, t.cycles)) =
      some (0x0201#16, 0xFFFC#16, 2) := by decide +kernel

/-- V-CTL-15. -/
theorem test_reti :
    (after (poke (poke { base with ime := false, sp := 0xFFFC#16 } 0xFFFC 0x53#8) 0xFFFD 0x01#8) [0xD9#8]).map
      (fun t => (t.pc, t.sp, t.ime, t.cycles)) =
      some (0x0153#16, 0xFFFE#16, true, 4) := by decide +kernel

/-- V-CTL-16. -/
theorem test_rst :
    (after { base with sp := 0xFFFE#16 } [0xFF#8]).map
      (fun t => (t.sp, rd t 0xFFFC#16, rd t 0xFFFD#16, t.pc, t.cycles)) =
      some (0xFFFC#16, some 0x01#8, some 0x02#8, 0x0038#16, 4) := by decide +kernel

/-! ### System instructions (section 2.8) -/

/-- V-SYS-1. -/
theorem test_nop :
    (after { base with pc := 0x0100#16 } [0x00#8]).map (fun t => (t.pc, t.cycles)) = some (0x0101#16, 1) := by decide +kernel

/-- V-SYS-2. -/
theorem test_halt :
    (after (poke base 0xFFFF 0x01#8) [0x76#8]).map (fun t => (t.halted, t.pc, t.cycles)) = some (true, 0x0201#16, 1) := by decide +kernel

/-- V-SYS-2, a later step. -/
theorem test_halt_idle :
    (after (poke { base with halted := true } 0xFFFF 0x01#8) [0x00#8]).map
      (fun t => (t.halted, t.pc, t.cycles)) =
      some (true, 0x0200#16, 1) := by decide +kernel

/-- V-SYS-3, V-SYS-4. -/
theorem test_stop :
    (after { base with pc := 0x0300#16 } [0x10#8, 0x00#8]).map
      (fun t => (t.stopped, t.pc, t.cycles)) =
      some (true, 0x0302#16, 1) ∧
    (after { base with pc := 0x0300#16 } [0x10#8, 0x5A#8]).map
      (fun t => (t.stopped, t.pc, t.cycles)) =
      some (true, 0x0302#16, 1) := by decide +kernel

/-- V-SYS-5. -/
theorem test_di :
    (after { base with ime := true } [0xF3#8]).map (fun t => (t.ime, t.cycles)) = some (false, 1) := by decide +kernel

/-- V-INT-9, step 1. -/
theorem test_ei :
    (after (poke (poke base 0xFF0F 0x04#8) 0xFFFF 0x04#8) [0xFB#8]).map
      (fun t => (t.ime, t.eiDelay, t.cycles)) =
      some (false, true, 1) := by decide +kernel

/-- V-INT-9, step 2. -/
theorem test_ei_then_nop :
    (after (poke (poke { base with eiDelay := true } 0xFF0F 0x04#8) 0xFFFF 0x04#8) [0x00#8]).map
      (fun t => (t.ime, t.eiDelay)) =
      some (true, false) := by decide +kernel

/-- V-SYS-6, step 2. -/
theorem test_ei_then_di :
    (after (poke (poke { base with eiDelay := true } 0xFF0F 0x01#8) 0xFFFF 0x01#8) [0xF3#8]).map
      (fun t => (t.ime, t.eiDelay)) =
      some (false, false) := by decide +kernel

/-! ### Interrupts (section 2.9) -/

/-- V-INT-1, V-INT-1. -/
theorem test_service_timer :
    (after (poke (poke { base with ime := true, pc := 0x0300#16 } 0xFF0F 0x1F#8) 0xFFFF 0x14#8) [0x00#8]).map
      (fun t => (rd t 0xFFFC#16, rd t 0xFFFD#16, t.sp, t.pc)) =
      some (some 0x00#8, some 0x03#8, 0xFFFC#16, 0x0050#16) ∧
    (after (poke (poke { base with ime := true, pc := 0x0300#16 } 0xFF0F 0x1F#8) 0xFFFF 0x14#8) [0x00#8]).map
      (fun t => (t.ime, handleValue t ioIF, t.cycles)) =
      some (false, 0x1B#8, 5) := by decide +kernel

/-- V-INT-2. -/
theorem test_service_clears_latch :
    (after (poke (poke { base with ime := true, eiDelay := true } 0xFF0F 0x01#8) 0xFFFF 0x01#8) [0x00#8]).map
      (fun t => (t.pc, t.ime, t.eiDelay, handleValue t ioIF, t.cycles)) =
      some (0x0040#16, false, false, 0x00#8, 5) := by decide +kernel

/-- V-INT-3. -/
theorem test_halt_wake :
    (after (poke (poke { base with halted := true, pc := 0x0201#16 } 0xFF0F 0x01#8) 0xFFFF 0x01#8) [0x00#8]).map
      (fun t => (t.halted, t.pc, t.cycles)) =
      some (false, 0x0202#16, 1) := by decide +kernel

/-- V-INT-4. -/
theorem test_halt_not_pending :
    (after (poke (poke { base with halted := true } 0xFF0F 0x01#8) 0xFFFF 0x00#8) [0x00#8]).map
      (fun t => (t.halted, t.pc, t.cycles)) =
      some (true, 0x0200#16, 1) := by decide +kernel

/-- V-INT-5. -/
theorem test_halt_service :
    (after (poke (poke { base with halted := true, ime := true, pc := 0x010E#16 } 0xFF0F 0x04#8) 0xFFFF 0x04#8) [0x00#8]).map
      (fun t => (t.halted, rd t 0xFFFC#16, rd t 0xFFFD#16, t.pc, handleValue t ioIF, t.cycles)) =
      some (false, some 0x0E#8, some 0x01#8, 0x0050#16, 0x00#8, 5) := by decide +kernel

/-- V-INT-6. -/
theorem test_stop_idle :
    (after { base with stopped := true } [0x00#8]).map
      (fun t => (t.stopped, t.pc, t.cycles)) =
      some (true, 0x0200#16, 1) := by decide +kernel

/-- V-INT-7. -/
theorem test_stop_wake :
    (after (poke { base with stopped := true, ime := true } 0xFF0F 0x10#8) [0x00#8]).map
      (fun t => (t.stopped, t.pc, handleValue t ioIF, t.cycles)) =
      some (false, 0x0200#16, 0x10#8, 1) := by decide +kernel

/-- V-INT-8. -/
theorem test_push_onto_if :
    (after (poke (poke { base with ime := true, sp := 0xFF11#16, pc := 0x1234#16 } 0xFF0F 0x04#8) 0xFFFF 0x04#8) [0x00#8]).map
      (fun t => (handleValue t ioIF, rd t 0xFF10#16, t.sp, t.pc, handleVersion t 0xFF0F#16, handleVersion t 0xFF10#16)) =
      some (0x30#8, some 0x12#8, 0xFF0F#16, 0x0050#16, 2, 1) := by decide +kernel

/-! ### Faults (sections 2.8 and 2.9) -/

/-- A cartridge that refuses every access at 0x4000; BC, DE and HL point there. -/
def refusing : State :=
  { base with b := 0x40, d := 0x40, h := 0x40,
              cart := { state := 0, reads := [⟨none, 0x4000#16, none⟩], writes := [⟨none, 0x4000#16, none, none⟩] } }

/-- A cartridge that refuses every write to 0x4000 and reads there; HL points there. -/
def refusingWrite : State :=
  { base with h := 0x40, cart := { state := 0, reads := [], writes := [⟨none, 0x4000#16, none, none⟩] } }

/-- V-SYS-7 to V-SYS-9. -/
theorem test_undefined :
    faultAfter base [0xD3#8] = some (.unknownOpcode .base 0xD3#8) ∧
    faultAfter base [0xFD#8] = some (.unknownOpcode .base 0xFD#8) ∧
    faultAfter base [0xE4#8] = some (.unknownOpcode .base 0xE4#8) := by decide +kernel

/-- V-SYS-7: the state after the tick is the state before it, faulted. -/
theorem test_fault_rolls_back :
    (afterTick Config.default (poke base 0x0200 0xD3#8)).pc = 0x0200#16 ∧
    (afterTick Config.default (poke base 0x0200 0xD3#8)).status = .faulted (.unknownOpcode .base 0xD3#8) := by
  decide +kernel

/-- V-INT-10. -/
theorem test_refused_read :
    faultAfter refusing [0xFA#8, 0x00#8, 0x40#8] = some (.memoryFault 0x4000#16 .read) := by decide +kernel

/-- V-INT-11. -/
theorem test_refused_service_push :
    faultAfter (poke (poke { refusing with ime := true, sp := 0x4002#16 } 0xFF0F 0x01#8) 0xFFFF 0x01#8) [0x00#8] =
      some (.memoryFault 0x4000#16 .write) := by decide +kernel

/-- R53: a row for one internal state answers in that state only, and a write may change the state. -/
theorem test_cartridge_rows :
    let banked : State := { base with cart := { state := 0, reads := [⟨some 1, 0x4000#16, some 0x77#8⟩],
                                                writes := [⟨none, 0x2000#16, some 0x01#8, some 1⟩] } }
    rd banked 0x4000#16 = some 0x00#8 ∧ rd (wr banked 0x2000#16 0x01#8) 0x4000#16 = some 0x77#8 ∧
      rd (wr banked 0x2000#16 0x02#8) 0x4000#16 = some 0x00#8 := by decide +kernel

/-! ### Memory (section 2.10) -/

/-- S5, V-MEM-1, V-MEM-2. -/
theorem test_echo : rd (wr base 0xC100#16 0x42#8) 0xE100#16 = some 0x42#8 ∧
    rd (wr base 0xE200#16 0x55#8) 0xC200#16 = some 0x55#8 := by decide +kernel

/-- V-MEM-3 to V-MEM-5. -/
theorem test_no_storage : rd (wr base 0xFEA0#16 0x11#8) 0xFEA0#16 = some 0xFF#8 ∧ rd base 0xFEFF#16 = some 0xFF#8 ∧
    wr base 0x2000#16 0x11#8 = base ∧ rd base 0xA000#16 = some 0xFF#8 := by decide +kernel

/-- V-MEM-6: writing the value that is there adds to the version all the same. -/
theorem test_version : handleVersion (wr (wr base 0xFF30#16 0x00#8) 0xFF30#16 0x00#8) 0xFF30#16 = 2 := by
  decide +kernel

/-- V-MEM-7: the word at 0xFFFF has its high byte at 0x0000. -/
theorem test_word_wraps :
    memRead16 (poke (poke base 0xFFFF 0x34#8) 0x0000 0x12#8) 0xFFFF#16 = .ok 0x1234#16 := by decide +kernel

/-! ### Reset, a tick and the environment -/

/-- R400: the reset values that the spec gives. -/
theorem test_reset : State.reset.af = 0x01B0#16 ∧ State.reset.bc = 0x0013#16 ∧ State.reset.de = 0x00D8#16 ∧
    State.reset.hl = 0x014D#16 ∧ State.reset.sp = 0xFFFE#16 ∧ State.reset.pc = 0x0100#16 ∧
    rd State.reset 0xFF26#16 = some 0xF1#8 ∧ rd State.reset 0xFFFF#16 = some 0x00#8 := by decide +kernel

/-- P1, its first tick: from reset the step runs the instruction placed at PC, and the APU writes NR52 four times. -/
theorem test_first_tick :
    (nextOf (step (State.reset.withFetchWord 16 0x003E))).map
      (fun t => (t.a, t.pc, t.cycles, rd t 0xFF26#16, handleVersion t 0xFF26#16)) =
      some (0x00#8, 0x0102#16, 2, some 0xFF#8, 4) := by decide +kernel

/-- R5: a tick takes the moves at the head of the script: an interrupt request, ENV_REGS, OAM, and no address outside. -/
theorem test_environment :
    let s := envPhase Config.default { base with env := [[.requestIrq 0x05#5, .writeReg 0xFF04#16 0x12#8,
      .writeReg 0xFF10#16 0x34#8, .writeOam 0xFE9F#16 0x56#8, .writeOam 0xC000#16 0x78#8, .setCart 3], []] }
    handleValue s ioIF = 0x05#8 ∧ rd s 0xFF04#16 = some 0x12#8 ∧ rd s 0xFF10#16 = some 0x80#8 ∧
      rd s 0xFE9F#16 = some 0x56#8 ∧ rd s 0xC000#16 = some 0x00#8 ∧ s.cart.state = 3 ∧ s.env = [[]] := by
  decide +kernel

/-! ### The APU (sections 1.1 and 2.11). Every vector starts at reset, with registers put in place. -/

/-- The reset state with registers put in place, and one run of the APU. -/
def apuAfter (regs : List (Nat × Byte)) (t : Rat) : State :=
  apuRun Config.default t (regs.foldl (fun s r => poke s r.1 r.2) State.reset)

/-- S6: voice 0 stops; its frequency stays 0; NR52 reads 0xFE and has been written four times. -/
theorem test_apu_sweep_overflow :
    let t := apuAfter [(0xFF10, 0x1F#8), (0xFF13, 0xFF#8)] (33554432 / 1000)
    t.apu.pulseA.voice.stopped = true ∧ t.apu.pulseA.voice.frequency = 0 ∧ handleValue t ioNR52 = 0xFE#8 ∧
      handleVersion t ioNR52 = 4 := by decide +kernel

/-- V-APU-1: the calls of the voices, in order; a wave RAM of zeros is a table of −1. -/
def voiceCalls : List SinkCall :=
  [.setPulseWidth .pulseA (1 / 2), .rampFrequency .pulseA 131072 (1 / 100), .rampAmplitude .pulseA 1 (1 / 100),
   .rampPan .pulseA .centre (1 / 100),
   .setPulseWidth .pulseB (1 / 8), .rampFrequency .pulseB 131072 (1 / 100), .rampAmplitude .pulseB 0 (1 / 100),
   .rampPan .pulseB .centre (1 / 100),
   .setWavetable .wave (List.replicate 32 (-1)), .rampFrequency .wave 65536 (1 / 100),
   .rampAmplitude .wave 0 (1 / 100), .rampPan .wave .left (1 / 100),
   .rampFrequency .noise 524288 (1 / 100), .rampAmplitude .noise 0 (1 / 100), .rampPan .noise .left (1 / 100)]

/-- The calls of a run: D48's order, "Then one master-volume call", at the default parameters; and the order of R330 and
V-APU-1 where the master volume is first. -/
theorem test_apu_calls : (apuAfter [] 4).sink.drop 4 = voiceCalls ++ [.setMasterVolume 1 1] ∧
    (apuRun { Config.default with masterVolumeFirst := true } 4 State.reset).sink.drop 4 =
      .setMasterVolume 1 1 :: voiceCalls := by decide +kernel

/-- V-APU-2, V-APU-3: the amplitude falls at 3/64 s, not one cycle before. -/
theorem test_apu_envelope_step : (apuAfter [] 196608).apu.pulseA.voice.amplitude = 14 / 15 ∧
    (apuAfter [] 196604).apu.pulseA.voice.amplitude = 1 := by decide +kernel

/-- V-APU-4, V-APU-5: the amplitude stops at 15 and at 0, and the voice plays on. -/
theorem test_apu_envelope_clamp : (apuAfter [(0xFF12, 0x1B#8)] 4194304).apu.pulseA.voice.amplitude = 1 ∧
    (apuAfter [(0xFF12, 0x21#8)] (4194304 / 10)).apu.pulseA.voice.amplitude = 0 ∧
    (handleValue (apuAfter [(0xFF12, 0x21#8)] (4194304 / 10)) ioNR52).getLsbD 0 = true := by decide +kernel

/-- V-APU-6, V-APU-7: the length runs out at 1/256 s, not one cycle before. -/
theorem test_apu_length : handleValue (apuAfter [(0xFF19, 0xC0#8)] 16384) ioNR52 = 0xFD#8 ∧
    handleValue (apuAfter [(0xFF19, 0xC0#8)] 16380) ioNR52 = 0xFF#8 := by decide +kernel

/-- V-APU-8 to V-APU-11: the sweep up, down, before its time, and to 0 bits. -/
theorem test_apu_sweep :
    (apuAfter [(0xFF10, 0x19#8), (0xFF13, 0x00#8), (0xFF14, 0x81#8)] (33554432 / 1000)).apu.pulseA.voice.frequency =
      256 / 3 ∧
    (apuAfter [(0xFF10, 0x11#8), (0xFF13, 0x00#8), (0xFF14, 0x81#8)] (33554432 / 1000)).apu.pulseA.voice.frequency =
      1024 / 15 ∧
    (apuAfter [(0xFF10, 0x19#8), (0xFF13, 0x00#8), (0xFF14, 0x81#8)]
      (322961408 / 10000)).apu.pulseA.voice.frequency = 512 / 7 ∧
    handleValue (apuAfter [(0xFF10, 0x11#8), (0xFF13, 0x01#8), (0xFF14, 0x80#8)] (33554432 / 1000)) ioNR52 =
      0xFE#8 := by decide +kernel

/-- V-APU-13: a trigger bit that stays up is no edge; down and up again is one. -/
theorem test_apu_trigger :
    let r1 := apuRun Config.default 98304 State.reset
    let r2 := apuRun Config.default 98304 (wr r1 0xFF14#16 0x3F#8)
    let r3 := apuRun Config.default 4 (wr r2 0xFF14#16 0xBF#8)
    r2.apu.pulseA.amp.elapsed = 3 / 64 ∧ r2.apu.pulseA.voice.amplitude = 14 / 15 ∧
      r3.apu.pulseA.amp.elapsed = 4 / 4194304 ∧ r3.apu.pulseA.voice.amplitude = 1 := by decide +kernel

/-- V-APU-14, V-APU-15: the wavetable, shifted; a write of the same byte pushes it again. -/
theorem test_apu_wavetable :
    let r1 := apuAfter [(0xFF1A, 0x80#8), (0xFF1C, 0x20#8), (0xFF30, 0xF0#8)] 4
    let r2 := apuRun Config.default 4 (wr r1 0xFF30#16 0xF0#8)
    let r3 := apuRun Config.default 4 r2
    let tables := fun (s : State) => s.sink.filterMap fun
      | .setWavetable .wave l => some (l.take 3)
      | _ => none
    tables r1 = [[-1 / 15, -1, -1]] ∧ tables r2 = [[-1 / 15, -1, -1], [-1 / 15, -1, -1]] ∧ tables r3 = tables r2 ∧
      r1.apu.wave.voice.muted = false ∧ r1.apu.wave.voice.amplitude = 1 := by decide +kernel

/-- V-APU-12, V-APU-16, V-APU-20 to V-APU-22: frequencies. -/
theorem test_apu_frequency : (apuAfter [] 4).apu.pulseA.voice.frequency = 131072 ∧
    (apuAfter [(0xFF1D, 0x00#8), (0xFF1E, 0x07#8)] 4).apu.wave.voice.frequency = 256 ∧
    (apuAfter [(0xFF22, 0x21#8)] 4).apu.noise.voice.frequency = 65536 ∧
    (apuAfter [(0xFF22, 0x07#8)] 4).apu.noise.voice.frequency = 262144 / 7 ∧
    (apuAfter [(0xFF22, 0xF0#8)] 4).apu.noise.voice.frequency = 16 := by decide +kernel

/-- V-APU-17: routing; a voice on no side keeps its pan and ramps to 0. -/
theorem test_apu_route :
    let t := apuAfter [(0xFF25, 0x12#8)] 4
    t.apu.pulseA.voice.pan = .left ∧ t.apu.pulseB.voice.pan = .right ∧ t.apu.wave.voice.pan = .centre ∧
      t.apu.noise.voice.target = 0 := by decide +kernel

/-- V-APU-18, V-APU-19. -/
theorem test_apu_master_volume : (apuAfter [(0xFF24, 0x30#8)] 4).sink.getLastD (.stop .noise) = .setMasterVolume (1 / 2) (1 / 8) ∧
    (apuAfter [(0xFF24, 0x00#8)] 4).sink.getLastD (.stop .noise) = .setMasterVolume (1 / 8) (1 / 8) := by decide +kernel

/-- The master switched off after a run, and the run that sees it. -/
def switchedOff : State := apuRun Config.default 12 (wr (apuAfter [] 4) 0xFF26#16 0x00#8)

/-- V-APU-23, P6: the registers read 0, written once each; one call a voice. -/
theorem test_apu_master_off : soundAddrs.map (handleValue switchedOff) = List.replicate 21 0x00#8 ∧
    handleVersion switchedOff ioNR52 = 6 ∧ handleVersion switchedOff ioNR10 = 1 ∧
    switchedOff.sink.drop 20 = [.rampAmplitude .pulseA 0 (1 / 100), .rampAmplitude .pulseB 0 (1 / 100),
      .rampAmplitude .wave 0 (1 / 100), .rampAmplitude .noise 0 (1 / 100)] := by decide +kernel

/-- V-APU-24: another run writes and calls nothing. -/
theorem test_apu_stays_off : handleVersion (apuRun Config.default 12 switchedOff) ioNR52 = 6 ∧
    (apuRun Config.default 12 switchedOff).sink.length = 24 := by decide +kernel

/-- V-APU-25: on again. -/
theorem test_apu_on_again :
    let t := apuRun Config.default 4 (wr (wr switchedOff 0xFF26#16 0x80#8) 0xFF12#16 0xF0#8)
    t.apu.pulseA.voice.amplitude = 1 ∧ handleValue t ioNR52 = 0x8F#8 := by decide +kernel

/-! ### Witnesses: for each obligation with hypotheses, what meets them -/

/-- A read of the byte at HL, BC or DE that is answered, and one that is refused. -/
def ReadsWitness : Prop :=
  memRead base base.hl = .ok 0x00#8 ∧ memRead base 0xFFFF#16 = .ok 0x00#8 ∧ inCart refusing.hl = true ∧
    cartRead refusing refusing.hl = none ∧ refusing.bc = refusing.hl ∧ refusing.de = refusing.hl

theorem readsWitness : ReadsWitness := ⟨rfl, rfl, rfl, rfl, rfl, rfl⟩

/-- A write that goes through, and one that is refused, at HL, BC and DE. -/
def WritesWitness : Prop :=
  (∃ u, memWrite base base.hl base.a = .ok u) ∧ (∃ u, memWrite base 0xFFFF#16 base.a = .ok u) ∧
    inCart refusing.hl = true ∧ cartWrite refusing refusing.hl refusing.a = none ∧ refusing.bc = refusing.hl ∧
    refusing.de = refusing.hl

theorem writesWitness : WritesWitness := ⟨⟨_, rfl⟩, ⟨_, rfl⟩, rfl, rfl, rfl, rfl⟩

/-- A read and write back at HL that both go through, a refused read, and a refused write after a read. -/
def UpdatesWitness : Prop :=
  (∃ v u, memRead base base.hl = .ok v ∧ memWrite base base.hl v = .ok u) ∧
    (inCart refusing.hl = true ∧ cartRead refusing refusing.hl = none) ∧
    ∃ v, memRead refusingWrite refusingWrite.hl = .ok v ∧ inCart refusingWrite.hl = true ∧
      ∀ w, cartWrite refusingWrite refusingWrite.hl w = none

theorem updatesWitness : UpdatesWitness := ⟨⟨_, _, rfl, rfl⟩, ⟨rfl, rfl⟩, _, rfl, rfl, fun _ => rfl⟩

/-- Two stacked bytes that go through, with SP below its wrap, at 0x0000 and across the wrap, and a refusal of the first and of the second. -/
def PushesWitness : Prop :=
  (∀ sp ∈ [0xFFFE#16, 0x0000#16, 0x0001#16], ∀ w : Word,
    ∃ s1 u, memWrite { base with sp := sp - 2#16 } (sp - 2#16) (loByte w) = .ok s1 ∧
      memWrite s1 (sp - 2#16 + 1#16) (hiByte w) = .ok u) ∧
    (∀ v, ∃ f, memWrite { refusing with sp := 0x4000#16 } (0x4002#16 - 2#16) v = .error f) ∧
    ∀ w : Word, ∃ s1 f, memWrite { refusing with sp := 0x3FFF#16 } (0x4001#16 - 2#16) (loByte w) = .ok s1 ∧
      memWrite s1 (0x4001#16 - 2#16 + 1#16) (hiByte w) = .error f

theorem pushesWitness : PushesWitness := by
  refine ⟨fun sp hsp w => ?_, fun _ => ⟨_, rfl⟩, fun _ => ⟨_, _, rfl, rfl⟩⟩
  simp only [List.mem_cons, List.not_mem_nil, or_false] at hsp
  rcases hsp with rfl | rfl | rfl <;> exact ⟨_, _, rfl, rfl⟩

/-- Two bytes read at SP, with SP at its wrap, and a refusal of the first and of the second. -/
def PopsWitness : Prop :=
  (∃ lo hi, memRead base 0xFFFF#16 = .ok lo ∧ memRead base (0xFFFF#16 + 1#16) = .ok hi) ∧
    (∃ f, memRead refusing 0x4000#16 = .error f) ∧
    ∃ lo f, memRead refusing 0x3FFF#16 = .ok lo ∧ memRead refusing (0x3FFF#16 + 1#16) = .error f

theorem popsWitness : PopsWitness := ⟨⟨_, _, rfl, rfl⟩, ⟨_, rfl⟩, _, _, rfl, rfl⟩

theorem witness_DecodeEncode : Instr.wf (.jp_a16 0xFFFF#16) = true ∧ Instr.wf .set_7_A = true := ⟨rfl, rfl⟩

theorem witness_EncodeDecode : decode [0x01#8, 0x34#8, 0x12#8, 0xD3#8] = .ok (.ld_BC_n16 0x1234#16, [0xD3#8]) ∧
    decode [] = .error .noBytes ∧ decode [0x01#8, 0x34#8] = .error (.truncated 0x01#8) := ⟨rfl, rfl, rfl⟩

/-- With IME clear; and with IME set and nothing pending. -/
theorem witness_StepRunsDecodedInstruction :
    (∀ s ∈ [State.reset, { State.reset with ime := true }],
      s.status = .running ∧ (haltWake (envPhase Config.default s)).stopped = false ∧
      (haltWake (envPhase Config.default s)).halted = false ∧
      ((haltWake (envPhase Config.default s)).ime = false ∨ pending (haltWake (envPhase Config.default s)) = 0#8) ∧
      readsBytes (haltWake (envPhase Config.default s)) (haltWake (envPhase Config.default s)).pc [0x00#8]) ∧
    decode [0x00#8] = .ok (.nop, []) := by
  refine ⟨fun s hs => ?_, rfl⟩
  simp only [List.mem_cons, List.not_mem_nil, or_false] at hs
  rcases hs with rfl | rfl
  · exact ⟨rfl, rfl, rfl, .inl rfl, rfl, trivial⟩
  · exact ⟨rfl, rfl, rfl, .inr (by decide +kernel), rfl, trivial⟩

/-- An entry on the byte at HL, with the bus answering; and one on a register. -/
theorem witness_PrefixRunsCbEntry : ((0x06#8 : Byte).toNat % 8 = 6 ∧ (∃ v, memRead base base.hl = .ok v) ∧
    ∀ v, ∃ u, memWrite base base.hl v = .ok u) ∧ (0xFF#8 : Byte).toNat % 8 ≠ 6 :=
  ⟨⟨rfl, ⟨_, rfl⟩, fun _ => ⟨_, rfl⟩⟩, by decide⟩

theorem witness_LoadRegister : (.ld_B_B, .b, .b) ∈ loadRegRows := .head _

theorem witness_LoadImmediate : (.ld_B_n8, .b) ∈ loadImmRows ∧ (.ld_BC_n16, .bc) ∈ loadPairRows := ⟨.head _, .head _⟩

theorem witness_LoadFromMemory : (.ld_B_mHL, .b) ∈ loadFromHLRows ∧ ReadsWitness := ⟨.head _, readsWitness⟩

theorem witness_StoreToMemory : (.ld_mHL_B, .b) ∈ storeToHLRows ∧ WritesWitness := ⟨.head _, writesWitness⟩

theorem witness_StoreWords : (.push_BC, .bc) ∈ pushRows ∧ PushesWitness ∧
    (∃ s1 u, memWrite base 0xFFFF#16 (loByte base.sp) = .ok s1 ∧
      memWrite s1 (0xFFFF#16 + 1#16) (hiByte base.sp) = .ok u) ∧
    (∃ f, memWrite refusing 0x4000#16 (loByte refusing.sp) = .error f) ∧
    ∃ s1 f, memWrite refusing 0x3FFF#16 (loByte refusing.sp) = .ok s1 ∧
      memWrite s1 (0x3FFF#16 + 1#16) (hiByte refusing.sp) = .error f :=
  ⟨.head _, pushesWitness, ⟨_, _, rfl, rfl⟩, ⟨_, rfl⟩, _, _, rfl, rfl⟩

theorem witness_PopPairs : (.pop_BC, .bc) ∈ popRows ∧ PopsWitness := ⟨.head _, popsWitness⟩

theorem witness_AddAndAdc : (.add_A_B, .reg .b) ∈ addRows ∧ (.adc_A_B, .reg .b) ∈ adcRows ∧ ReadsWitness :=
  ⟨.head _, .head _, readsWitness⟩

theorem witness_SubSbcAndCp : (.sub_B, .reg .b) ∈ subRows ∧ (.sbc_A_B, .reg .b) ∈ sbcRows ∧
    (.cp_B, .reg .b) ∈ cpRows ∧ ReadsWitness := ⟨.head _, .head _, .head _, readsWitness⟩

theorem witness_LogicOps : (.and_B, .reg .b) ∈ andRows ∧ (.xor_B, .reg .b) ∈ xorRows ∧ (.or_B, .reg .b) ∈ orRows ∧
    ReadsWitness := ⟨.head _, .head _, .head _, readsWitness⟩

theorem witness_IncDec8 : (.inc_B, .b) ∈ incRows ∧ (.dec_B, .b) ∈ decRows ∧ UpdatesWitness :=
  ⟨.head _, .head _, updatesWitness⟩

/-- 99 + 1 and 0 − 99. -/
theorem witness_DaaIsDecimal : (99 < 100 ∧ 1 < 100 ∧ ({ base with a := 0x99, b := 0x01 } : State).a = bcd 99 ∧
    ({ base with a := 0x99, b := 0x01 } : State).b = bcd 1) ∧
    (0 < 100 ∧ 99 < 100 ∧ ({ base with a := 0x00, b := 0x99 } : State).a = bcd 0 ∧
    ({ base with a := 0x00, b := 0x99 } : State).b = bcd 99) := by decide

theorem witness_Arithmetic16 : (.add_HL_BC, .bc) ∈ addHlRows ∧ (.inc_BC, .bc) ∈ incPairRows ∧
    (.dec_BC, .bc) ∈ decPairRows := ⟨.head _, .head _, .head _⟩

theorem witness_RotateAccumulator : (.rlca, .rlc) ∈ rotateARows := .head _

theorem witness_RotateRegister : (.rlc_B, .rlc, .b) ∈ rotateRegRows := .head _

theorem witness_RotateMemory : (.rlc_mHL, .rlc) ∈ rotateMemRows ∧ UpdatesWitness := ⟨.head _, updatesWitness⟩

theorem witness_BitTest : (.bit_0_B, 0, .b) ∈ bitRegRows ∧ (.bit_0_mHL, 0) ∈ bitMemRows ∧ ReadsWitness :=
  ⟨.head _, .head _, readsWitness⟩

theorem witness_BitReset : (.res_0_B, 0, .b) ∈ resRegRows ∧ (.res_0_mHL, 0) ∈ resMemRows ∧ UpdatesWitness :=
  ⟨.head _, .head _, updatesWitness⟩

theorem witness_BitSet : (.set_0_B, 0, .b) ∈ setRegRows ∧ (.set_0_mHL, 0) ∈ setMemRows ∧ UpdatesWitness :=
  ⟨.head _, .head _, updatesWitness⟩

/-- Each condition holds in one state and fails in another. -/
theorem witness_Jumps : (.jp_NZ_a16, .nz) ∈ jpRows ∧ (.jr_NZ_e8, .nz) ∈ jrRows ∧
    ∀ cc ∈ [Cond.nz, .z, .nc, .c], condHolds cc base ≠ condHolds cc { base with f := 0x90#8 } :=
  ⟨.head _, .head _, by decide⟩

theorem witness_Calls : (.call_NZ_a16, .nz) ∈ callRows ∧ (.rst_00, 0) ∈ rstRows ∧ PushesWitness ∧
    condHolds .nz base = true ∧ condHolds .nz { base with f := 0x80#8 } = false :=
  ⟨.head _, .head _, pushesWitness, rfl, rfl⟩

theorem witness_Returns : (.ret_NZ, .nz) ∈ retRows ∧ PopsWitness ∧ condHolds .nz base = true ∧
    condHolds .nz { base with f := 0x80#8 } = false := ⟨.head _, popsWitness, rfl, rfl⟩

theorem witness_UndefinedOpcodes : (.undefined_D3, 0xD3#8) ∈ undefinedRows ∧ Encodes [0xCB#8, 0xFF#8] .set_7_A :=
  ⟨.head _, rfl⟩

/-- A store to work RAM: the next byte, a ROM byte and the echo of another byte stand outside it. A store in a cartridge
range: a RAM byte does. -/
theorem witness_FrameMemory :
    (∃ t, exec .ld_mHL_A { base with h := 0xC0 } = .next t) ∧
    storeTargets .ld_mHL_A { base with h := 0xC0 } = [0xC000#16] ∧ inCart 0xC000#16 = false ∧
    [0xC000#16, 0xC001#16, 0x0000#16, 0xE001#16, 0xFFFF#16].map storageAddr = [0xC000, 0xC001, 0x0000, 0xC001, 0xFFFF] ∧
    (∃ t, exec .ld_mHL_A base = .next t) ∧ storeTargets .ld_mHL_A base = [0x0000#16] ∧ inCart 0x0000#16 = true :=
  ⟨⟨_, rfl⟩, rfl, rfl, rfl, ⟨_, rfl⟩, rfl, rfl⟩

theorem witness_FrameRegisters : (∃ t, exec .ld_A_B base = .next t) ∧ Reg8.b ∉ destRegs .ld_A_B ∧
    movesSp .ld_A_B = false := ⟨⟨_, rfl⟩, by decide, rfl⟩

/-- `NOP` meets every clause. -/
theorem witness_FrameControl : (∃ t, exec .nop base = .next t) ∧ writesF .nop = false ∧ Instr.nop ≠ .di ∧
    Instr.nop ≠ .reti ∧ Instr.nop ≠ .ei ∧ Instr.nop ≠ .halt ∧ ∀ n, Instr.nop ≠ .stop n :=
  ⟨⟨_, rfl⟩, rfl, nofun, nofun, nofun, nofun, nofun⟩

/-- A fetch; a conditional jump taken and not; an instruction with no condition. -/
theorem witness_PcAndCycles : (∃ s1, fetchInstr base = .ok (.nop, s1)) ∧
    (∃ t, exec (.jr_NZ_e8 0xFE#8) base = .next t ∧ condHolds .nz base = true) ∧
    (∃ t, exec (.jr_NZ_e8 0xFE#8) { base with f := 0x80#8 } = .next t ∧
      condHolds .nz { base with f := 0x80#8 } = false) ∧
    (∃ t, exec .nop base = .next t) ∧ notTaken .nop = none ∧ isTransfer .nop = false :=
  ⟨⟨_, rfl⟩, ⟨_, rfl, rfl⟩, ⟨_, rfl, rfl⟩, ⟨_, rfl⟩, rfl, rfl⟩

/-- The base state with IME set and requests and enables as given. -/
def requesting (flags enables : Byte) : State := poke (poke { base with ime := true } 0xFF0F flags) 0xFFFF enables

/-- The lowest source of five, the highest alone, and a push that is refused. -/
theorem witness_InterruptService :
    ((requesting 0x1F#8 0xFF#8).stopped = false ∧ (requesting 0x1F#8 0xFF#8).ime = true ∧
      (pending (requesting 0x1F#8 0xFF#8)).getLsbD 0 = true ∧
      (push16 { requesting 0x1F#8 0xFF#8 with halted := false } 0x0200#16).toOption.isSome = true) ∧
    ((pending (requesting 0xF0#8 0x10#8)).getLsbD 4 = true ∧
      ∀ j, j < 4 → (pending (requesting 0xF0#8 0x10#8)).getLsbD j = false) ∧
    (push16 { refusing with halted := false, sp := 0x4002#16 } 0x0200#16).toOption = none := by decide +kernel

theorem witness_HaltAndStopWake : pending { base with halted := true } = 0#8 ∧
    pending { requesting 0x01#8 0x01#8 with halted := true, ime := false } ≠ 0#8 ∧
    ({ base with stopped := true } : State).stopped = true := by decide +kernel

/-- The latch set before `NOP`, `DI` and `EI`, and clear before `NOP`. -/
theorem witness_EiDelay :
    (∃ s1 t, fetchInstr { base with arm := true, eiDelay := false } = .ok (.nop, s1) ∧ exec .nop s1 = .next t) ∧
    (∃ s1 t, fetchInstr { poke base 0x0200 0xF3#8 with arm := true, eiDelay := false } = .ok (.di, s1) ∧
      exec .di s1 = .next t) ∧
    (∃ s1 t, fetchInstr { poke base 0x0200 0xFB#8 with arm := true, eiDelay := false } = .ok (.ei, s1) ∧
      exec .ei s1 = .next t) ∧
    ∃ s1 t, fetchInstr { base with arm := false, eiDelay := false } = .ok (.nop, s1) ∧ exec .nop s1 = .next t :=
  ⟨⟨_, _, rfl, rfl⟩, ⟨_, _, rfl, rfl⟩, ⟨_, _, rfl, rfl⟩, _, _, rfl, rfl⟩

theorem witness_FaultEndsRun : (poke base 0x0200 0xD3#8).status = .running ∧
    faultOf (tick Config.default (poke base 0x0200 0xD3#8)) = some (.unknownOpcode .base 0xD3#8) ∧
    ({ base with status := .faulted (.memoryFault 0#16 .read) } : State).status =
      .faulted (.memoryFault 0#16 .read) := by decide +kernel

theorem witness_FaultKinds : exec .undefined_D3 base = .fault (.unknownOpcode .base 0xD3#8) ∧
    exec .ld_A_mHL refusing = .fault (.memoryFault 0x4000#16 .read) ∧
    exec .ld_mHL_A refusing = .fault (.memoryFault 0x4000#16 .write) := ⟨rfl, rfl, rfl⟩

/-- A step whose fetch is refused, one whose service's push is, one on an undefined opcode, and a faulted state. -/
theorem witness_FaultKinds_step :
    faultOf (cpuStep { refusing with pc := 0x4000#16 }) = some (.memoryFault 0x4000#16 .read) ∧
    faultOf (cpuStep { requesting 0x1F#8 0x1F#8 with sp := 0x4002#16, cart := refusing.cart }) =
      some (.memoryFault 0x4000#16 .write) ∧
    faultOf (step (poke base 0x0200 0xD3#8)) = some (.unknownOpcode .base 0xD3#8) ∧
    faultOf (step { refusing with pc := 0x4000#16 }) = some (.memoryFault 0x4000#16 .read) ∧
    faultOf (step { base with status := .faulted (.memoryFault 0#16 .read) }) = some (.memoryFault 0#16 .read) := by
  decide +kernel

/-- Both answers occur. -/
theorem witness_NeverStuck : State.reset.status = .running ∧ State.reset.cart.acceptsAll = true ∧
    (nextOf (step State.reset)).isSome = true ∧
    faultOf (step (State.reset.withFetchWord 8 0xD3)) = some (.unknownOpcode .base 0xD3#8) := by decide +kernel

/-- A stack in high RAM, and one that ends at the top of the address space. -/
theorem witness_ServiceThenReti : ∀ sp ∈ [0xFFFE#16, 0x0000#16],
    let s : State := { requesting 0x1F#8 0x1F#8 with sp := sp }
    s.memOk ∧ s.stopped = false ∧ s.ime = true ∧ pending s ≠ 0#8 ∧
      ∀ a, a = s.sp - 2#16 ∨ a = s.sp - 1#16 → inCart a = false ∧ regionOf a ≠ .prohibited ∧ a ≠ 0xFF0F#16 := by
  intro sp hsp
  simp only [List.mem_cons, List.not_mem_nil, or_false] at hsp
  rcases hsp with rfl | rfl <;>
    exact ⟨⟨by decide +kernel, by decide +kernel⟩, rfl, rfl, by decide +kernel, by rintro a (rfl | rfl) <;> decide +kernel⟩

/-- Both ends of the ranges below 0xC000. -/
theorem witness_ReadDecode :
    [0x0000#16, 0x7FFF#16, 0x8000#16, 0x9FFF#16, 0xA000#16, 0xBFFF#16].map (rd base) =
      [some 0x00#8, some 0x00#8, some 0x00#8, some 0x00#8, some 0xFF#8, some 0xFF#8] := by decide +kernel

/-- The default cartridge with a ROM image, at both ends of its ranges (R53). -/
theorem witness_ReadDecode_cart : base.cart.reads = [] ∧
    [0x0000#16, 0x7FFF#16, 0xA000#16, 0xBFFF#16].map (rd (poke (poke base 0x0000 0x11#8) 0x7FFF 0x22#8)) =
      [some 0x11#8, some 0x22#8, some 0xFF#8, some 0xFF#8] := ⟨rfl, by decide +kernel⟩

/-- A cartridge with a row, at its address and at another of each range. -/
theorem witness_ReadDecode_rows : refusing.cart.reads = ⟨none, 0x4000#16, none⟩ :: [] ∧
    [0x4000#16, 0x4001#16, 0xA000#16].map (cartRead refusing) = [none, some 0x00#8, some 0xFF#8] := ⟨rfl, by decide +kernel⟩

/-- Both ends of the ranges above; the bytes at 0xC000 and 0xDDFF are read at their echo addresses too. -/
theorem witness_ReadDecode_high :
    [0xC000#16, 0xDFFF#16, 0xE000#16, 0xFDFF#16, 0xFE00#16, 0xFE9F#16, 0xFEA0#16, 0xFEFF#16, 0xFF00#16, 0xFF26#16,
      0xFF80#16, 0xFFFF#16].map (rd (poke (poke base 0xC000 0x11#8) 0xDDFF 0x22#8)) =
    [some 0x11#8, some 0x00#8, some 0x11#8, some 0x22#8, some 0x00#8, some 0x00#8, some 0xFF#8, some 0xFF#8,
      some 0x00#8, some 0xF1#8, some 0x00#8, some 0x00#8] := by decide +kernel

/-- Both ends of every range: what reads back after 0x5A is written, and the version; and a refused write. -/
theorem witness_WriteDecode : base.memOk ∧
    (∀ r ∈ [(0x0000#16, 0x00#8, 0), (0x7FFF#16, 0x00#8, 0), (0x8000#16, 0x5A#8, 0), (0x9FFF#16, 0x5A#8, 0),
        (0xA000#16, 0xFF#8, 0), (0xBFFF#16, 0xFF#8, 0), (0xC000#16, 0x5A#8, 0), (0xDFFF#16, 0x5A#8, 0),
        (0xE000#16, 0x5A#8, 0), (0xFDFF#16, 0x5A#8, 0), (0xFE00#16, 0x5A#8, 0), (0xFE9F#16, 0x5A#8, 0),
        (0xFEA0#16, 0xFF#8, 0), (0xFEFF#16, 0xFF#8, 0), (0xFF00#16, 0x5A#8, 1), (0xFF7F#16, 0x5A#8, 1),
        (0xFF80#16, 0x5A#8, 0), (0xFFFE#16, 0x5A#8, 0), (0xFFFF#16, 0x5A#8, 1)],
      rd (wr base r.1 0x5A#8) r.1 = some r.2.1 ∧ handleVersion (wr base r.1 0x5A#8) r.1 = r.2.2) ∧
    cartWrite refusing 0x4000#16 0x5A#8 = none :=
  ⟨⟨by decide +kernel, by decide +kernel⟩, by decide +kernel, rfl⟩

/-- The default cartridge at both ends of its ranges (R53, V-MEM-4), and one with a row, at its address and at another. -/
theorem witness_WriteDecode_cart : base.cart.writes = [] ∧
    (∀ a ∈ [0x0000#16, 0x7FFF#16, 0xA000#16, 0xBFFF#16], memWrite base a 0x5A#8 = .ok base) ∧
    refusing.memOk ∧ refusing.cart.writes = ⟨none, 0x4000#16, none, none⟩ :: [] ∧
    (cartWrite refusing 0x4001#16 0x5A#8).isSome = true := by
  refine ⟨rfl, fun a ha => ?_, ⟨by decide +kernel, by decide +kernel⟩, rfl, rfl⟩
  simp only [List.mem_cons, List.not_mem_nil, or_false] at ha
  rcases ha with rfl | rfl | rfl | rfl <;> rfl

theorem witness_HandleWrites : base.memOk ∧ isHandle 0xFF00 = true ∧ isHandle 0xFF7F = true ∧
    isHandle 0xFFFF = true ∧ 7 < 8 := ⟨⟨by decide +kernel, by decide +kernel⟩, rfl, rfl, rfl, by decide⟩

theorem witness_MemoryCanonical : Memory.wf [(0xC000, 0x01#8), (0xFF26, 0x00#8)] ∧
    Versions.wf [(0xFF0F, 1), (0xFFFF, 2)] := by decide +kernel

/-- A stack in high RAM, and one across the top of an echo range. -/
theorem witness_PushThenPop : base.memOk ∧
    (∀ a, a = 0xFFFE#16 - 2#16 ∨ a = 0xFFFE#16 - 1#16 → inCart a = false ∧ regionOf a ≠ .prohibited) ∧
    (∀ a, a = 0xFE01#16 - 2#16 ∨ a = 0xFE01#16 - 1#16 → inCart a = false ∧ regionOf a ≠ .prohibited) :=
  ⟨⟨by decide +kernel, by decide +kernel⟩, by rintro a (rfl | rfl) <;> decide +kernel,
    by rintro a (rfl | rfl) <;> decide +kernel⟩

theorem witness_ResetState : (∃ s, s = State.launch Config.defaultResetRegs Cart.default [(0x0100, 0xD3#8)] []) ∧
    (0xFF10#16, 0x80#8) ∈ resetSound := ⟨⟨_, rfl⟩, .head _⟩

/-- A launch with a ROM byte and a byte of work RAM. -/
theorem witness_ResetInv : Memory.wf [(0x0100, 0xD3#8), (0xC000, 0x5A#8)] := by decide +kernel

/-- R56, D16: a push at SP = 0x0000 stores at 0xFFFE and 0xFFFF, and one at 0x0001 (41_load16.md, R124) at 0xFFFF and in the
ROM range, where the byte is not stored. -/
theorem test_push_wrap :
    (push16 { base with sp := 0x0000#16 } 0x1234#16).toOption.map
      (fun t => (t.sp, rd t 0xFFFE#16, rd t 0xFFFF#16)) = some (0xFFFE#16, some 0x34#8, some 0x12#8) ∧
    (push16 { base with sp := 0x0001#16 } 0x1234#16).toOption.map
      (fun t => (t.sp, rd t 0xFFFF#16, rd t 0x0000#16)) = some (0xFFFF#16, some 0x34#8, some 0x00#8) := by decide +kernel

/-- The reset state meets the invariant and has a next state. -/
theorem witness_StepKeepsInv : State.reset.Inv ∧ (nextOf (step State.reset)).isSome = true := by
  refine ⟨⟨⟨by decide +kernel, by decide +kernel⟩, (by decide : State.reset.f &&& 0x0F#8 = 0#8), ⟨⟨?_, ?_, ?_, ?_⟩, ⟨rfl, rfl, rfl⟩, ?_⟩, rfl⟩,
    by decide +kernel⟩
  any_goals exact ⟨le_rfl, le_rfl, zero_le_one⟩
  exact ⟨le_rfl, le_rfl, le_rfl, le_rfl, le_rfl, le_rfl, le_rfl, le_rfl⟩

/-- The reset state has canonical memory and a next state, in which the version of NR52 grew and that of NR10 did not. -/
theorem witness_StepKeepsRomAndVersions : State.reset.memOk ∧
    (nextOf (step State.reset)).map (fun t => (handleVersion t ioNR52, handleVersion t ioNR10)) = some (4, 0) ∧
    isHandle ioNR10.toNat = true := ⟨⟨by decide +kernel, by decide +kernel⟩, by decide +kernel, rfl⟩

/-- A script that requests an interrupt over a request that stands; addresses outside the environment's reach. -/
theorem witness_EnvironmentLimits :
    let s : State := { requesting 0xE1#8 0x00#8 with env := [[.requestIrq 0x10#5]] }
    s.memOk ∧ handleValue (envPhase Config.default s) 0xFF0F#16 = 0xF1#8 ∧ (handleValue s 0xFF0F#16).getLsbD 0 = true ∧
      ∀ n ∈ [0xFDFF, 0xFEA0, 0xFF08, 0xFF0E, 0xFF10, 0xFF3F, 0xFF4C, 0xFFFF],
        ¬ (0xFE00 ≤ n ∧ n < 0xFEA0) ∧ ¬ (0xFF00 ≤ n ∧ n ≤ 0xFF07) ∧ ¬ (0xFF40 ≤ n ∧ n ≤ 0xFF4B) ∧ n ≠ 0xFF0F :=
  ⟨⟨by decide +kernel, by decide +kernel⟩, by decide +kernel, by decide +kernel, by decide⟩

/-- Sound registers, and an unused handle, other than NR52. -/
theorem witness_ApuFrame_handles : ioNR13 ≠ 0xFF26#16 ∧ 0xFF1F#16 ≠ 0xFF26#16 ∧ ioNR51 ≠ 0xFF26#16 :=
  ⟨by decide, by decide, by decide⟩

/-- Both sides of the sound registers; a run that makes calls, with a wavetable key that is new, and one with the key it
pushed last. -/
theorem witness_ApuFrame : (0xFF0F < 0xFF10 ∨ 0xFF26 < 0xFF0F) ∧ (0xFF27 < 0xFF10 ∨ 0xFF26 < 0xFF27) ∧
    (apuAfter [] 4).sink.length = 20 ∧
    (State.reset.memOk ∧ masterOn State.reset = true ∧ State.reset.apu.waveKey ≠ some (wavetableKey State.reset)) ∧
    ((apuAfter [] 4).memOk ∧ masterOn (apuAfter [] 4) = true ∧
      (apuAfter [] 4).apu.waveKey = some (wavetableKey (apuAfter [] 4))) :=
  ⟨by decide, by decide, by decide +kernel,
    ⟨⟨by decide +kernel, by decide +kernel⟩, by decide +kernel, by decide +kernel⟩,
    ⟨by decide +kernel, by decide +kernel⟩, by decide +kernel, by decide +kernel⟩

/-- Q3: both ends and a fraction between. -/
theorem witness_FrequencyRoundTrip : bitsToFrequency 0 = 64 ∧ bitsToFrequency 2047 = 131072 ∧
    bitsToFrequency 1923 = 131072 / 125 ∧ frequencyToBits (131072 / 125) = 1923 := by decide +kernel

/-- The falling edge, and the master off before. -/
theorem witness_MasterDisable :
    let s := poke State.reset 0xFF26 0x00#8
    (s.memOk ∧ masterOn s = false ∧ s.apu.masterPrev = true) ∧
      (masterOn { s with apu := { s.apu with masterPrev := false } } = false ∧
        ({ s with apu := { s.apu with masterPrev := false } } : State).apu.masterPrev = false) :=
  ⟨⟨⟨by decide +kernel, by decide +kernel⟩, by decide +kernel, rfl⟩, by decide +kernel, rfl⟩

/-- The sweep with time 0, active, and out of range below and above (V-APU-12, V-APU-8, V-APU-11, S6). -/
theorem witness_VoiceStatus : State.reset.memOk ∧ masterOn State.reset = true ∧
    (apuAfter [] 4).apu.pulseA.voice.stopped = false ∧
    (apuAfter [(0xFF10, 0x19#8), (0xFF13, 0x00#8), (0xFF14, 0x81#8)] (33554432 / 1000)).apu.pulseA.voice.stopped =
      false ∧
    (apuAfter [(0xFF10, 0x11#8), (0xFF13, 0x01#8), (0xFF14, 0x80#8)] (33554432 / 1000)).apu.pulseA.voice.stopped =
      true ∧
    (apuAfter [(0xFF10, 0x1F#8), (0xFF13, 0xFF#8)] (33554432 / 1000)).apu.pulseA.voice.stopped = true :=
  ⟨⟨by decide +kernel, by decide +kernel⟩, by decide +kernel, by decide +kernel, by decide +kernel, by decide +kernel,
    by decide +kernel⟩

/-- Each voice's length of 1/256 s, run out at 16384 T-states and not one cycle before (as V-APU-6 and V-APU-7). -/
theorem witness_VoiceStatus_length :
    [16384, 16380].map (fun d =>
      ((apuAfter [(0xFF11, 0xBF#8), (0xFF14, 0xC0#8)] d).apu.pulseA.voice.stopped,
        (apuAfter [(0xFF19, 0xC0#8)] d).apu.pulseB.voice.stopped,
        (apuAfter [(0xFF1E, 0xC0#8)] d).apu.wave.voice.stopped,
        (apuAfter [(0xFF23, 0xC0#8)] d).apu.noise.voice.stopped)) =
      [(true, true, true, true), (false, false, false, false)] := by decide +kernel

/-- Packs that are new, kept, and kept with a rising trigger edge. -/
theorem witness_VoiceStatus_envelope :
    let r1 := apuRun Config.default 64 State.reset
    let r2 := apuRun Config.default 64 (wr r1 0xFF14#16 0x3F#8)
    let r3 := apuRun Config.default 64 (wr r2 0xFF14#16 0xBF#8)
    [r1, r2, r3].map (fun t => (t.apu.pulseA.len.elapsed, t.apu.pulseA.sweep.elapsed)) =
      [(64 / 4194304, 64 / 4194304), (128 / 4194304, 128 / 4194304), (64 / 4194304, 64 / 4194304)] := by decide +kernel

/-- A first run loads Pulse-B's pack, a second one keeps it, and a trigger after that restarts the envelope. -/
theorem witness_VoiceFields :
    let r1 := apuRun Config.default 64 State.reset
    let r2 := apuRun Config.default 64 r1
    let r3 := apuRun Config.default 64 (wr r2 0xFF19#16 0x3F#8)
    let r4 := apuRun Config.default 64 (wr r3 0xFF19#16 0xBF#8)
    State.reset.memOk ∧ masterOn State.reset = true ∧ masterOn r3 = true ∧
      r1.apu.pulseB.amp.elapsed = 64 / 4194304 ∧ r2.apu.pulseB.amp.elapsed = 128 / 4194304 ∧
      r3.apu.pulseB.amp.elapsed = 192 / 4194304 ∧ r4.apu.pulseB.amp.elapsed = 64 / 4194304 :=
  ⟨⟨by decide +kernel, by decide +kernel⟩, by decide +kernel, by decide +kernel, by decide +kernel, by decide +kernel,
    by decide +kernel, by decide +kernel⟩

/-- Amplitude steps: no period, and up and down past both ends of the range (V-APU-4, V-APU-5). -/
theorem witness_VoiceFields_amplitude : amplitudeSteps 0xF0#8 1 = 15 ∧ amplitudeSteps 0x1B#8 1 = 15 ∧
    amplitudeSteps 0x21#8 (1 / 10) = 0 ∧ amplitudeSteps 0xF3#8 (3 / 64) = 14 := by decide +kernel

/-! ### Runs (R417) -/

/-- A NOP, then `JR -2` at END_PC: the run ends at the first boundary there, one tick in, however long it is given; and it
has no end if END_PC is never reached. -/
theorem test_run_end :
    let s := storeFetchBytes State.reset 0x0100#16 [0x00#8, 0x18#8, 0xFE#8]
    runToEnd Config.default 0x0101#16 3 s = some (afterTick Config.default s) ∧
      runToEnd Config.default 0x0100#16 3 s = some s ∧ (runToEnd Config.default 0x0105#16 3 s).isNone = true := by
  decide +kernel

end Sys2Proof.Tests
end

section
/-! PROOFS. The tables are the encoder's: every instruction a fetch can give is encoded as the bytes that gave it
(spec/30_encoding.md R80, R88, R89). -/

namespace Sys2Proof

/-- Every instruction an entry gives is encoded as the byte `op` and its operand bytes, low byte first (R80, R83). -/
def Entry.SpelledFrom (op : Byte) : Entry → Prop
  | .plain i => encode i = [op]
  | .withByte f => ∀ n, encode (f n) = [op, n]
  | .withWord g => ∀ w, encode (g w) = [op, loByte w, hiByte w]

/-- The CB table is the encoder's (R89). -/
theorem encode_cbInstr : ∀ o : Byte, encode (cbInstr o) = [0xCB#8, o] := by decide

theorem baseEntry_ofNat_spelledFrom {k : Nat} (hk : k < 256) :
    (baseEntry (BitVec.ofNat 8 k)).SpelledFrom (BitVec.ofNat 8 k) := by
  interval_cases k
  any_goals exact rfl
  any_goals exact encode_cbInstr
  all_goals exact fun _ => rfl

/-- The base table is the encoder's (R88). -/
theorem baseEntry_spelledFrom (op : Byte) : (baseEntry op).SpelledFrom op := by
  simpa only [BitVec.ofNat_toNat, BitVec.setWidth_eq] using baseEntry_ofNat_spelledFrom op.isLt

namespace Machine

/-- The encoding of a fetched instruction begins with the byte at PC (R83, R85). -/
theorem fetchInstr_encode {s s1 : State} {i : Instr} (h : fetchInstr s = .ok (i, s1)) :
    ∃ op rest, memRead s s.pc = .ok op ∧ encode i = op :: rest := by
  unfold fetchInstr at h
  split at h
  · cases h
  · rename_i op hop
    have hspell := baseEntry_spelledFrom op
    split at h
    · rename_i i' he
      rw [he] at hspell
      cases h
      exact ⟨op, _, hop, hspell⟩
    · rename_i g he
      rw [he] at hspell
      split at h <;> cases h
      exact ⟨op, _, hop, hspell _⟩
    · rename_i g he
      rw [he] at hspell
      split at h <;> cases h
      exact ⟨op, _, hop, hspell _⟩

/-- The instructions without an effect are the undefined opcodes, each its own one byte (R91, R275). -/
theorem encode_of_undefined {i : Instr} {b : Byte} (h : operationOf i = .undefined b) :
    encode i = [b] ∧ b ∈ Claims.undefinedBytes := by
  cases i <;> cases h <;> exact ⟨rfl, by decide⟩

/-- An undefined opcode that was fetched is the byte at PC (R91). -/
theorem fetchInstr_undefined {s s1 : State} {i : Instr} {b : Byte} (h : fetchInstr s = .ok (i, s1))
    (hi : operationOf i = .undefined b) : memRead s s.pc = .ok b ∧ b ∈ Claims.undefinedBytes := by
  obtain ⟨op, rest, hop, henc⟩ := fetchInstr_encode h
  obtain ⟨hb, hmem⟩ := encode_of_undefined hi
  obtain ⟨rfl, -⟩ := List.cons_eq_cons.1 (henc.symm.trans hb)
  exact ⟨hop, hmem⟩

end Machine
end Sys2Proof
end

section
/-! PROOFS. An access fails only where the cartridge refuses it; so an instruction, and a `Step()`, goes on, or ends with
such a refusal, or is an undefined opcode (spec/60_exceptions.md R300, spec/20_memory.md R53). -/

namespace Sys2Proof.Machine

theorem acceptsAll_of_sameOutsideCpu {s t : State} (h : s.sameOutsideCpu t) :
    t.cart.acceptsAll = s.cart.acceptsAll := by
  obtain ⟨-, -, -, -, hr, hw⟩ := h
  rw [Cart.acceptsAll, Cart.acceptsAll, hr, hw]

/-! ### Words and the stack, on a cartridge that refuses nothing -/

theorem memRead16_ok_of_accepts {s : State} (h : s.cart.acceptsAll = true) (a : Word) :
    ∃ w, memRead16 s a = .ok w := by
  obtain ⟨lo, hlo⟩ := memRead_ok_of_accepts h a
  obtain ⟨hi, hhi⟩ := memRead_ok_of_accepts h (a + 1#16)
  exact ⟨joinWord hi lo, by simp only [memRead16, hlo, hhi]⟩

theorem memWrite16_ok_of_accepts {s : State} (h : s.cart.acceptsAll = true) (a w : Word) :
    ∃ t, memWrite16 s a w = .ok t := by
  obtain ⟨s1, h1⟩ := memWrite_ok_of_accepts h a (loByte w)
  have hs1 : s1.cart.acceptsAll = true := (acceptsAll_of_sameOutsideCpu (memWrite_plain h1).1.2.2).trans h
  obtain ⟨t, ht⟩ := memWrite_ok_of_accepts hs1 (a + 1#16) (hiByte w)
  exact ⟨t, by simp only [memWrite16, h1, ht]⟩

theorem pop16_ok_of_accepts {s : State} (h : s.cart.acceptsAll = true) : ∃ r, pop16 s = .ok r := by
  obtain ⟨w, hw⟩ := memRead16_ok_of_accepts h s.sp
  exact ⟨_, by simp only [pop16, hw]; rfl⟩

theorem fetchInstr_ok_of_accepts {s : State} (h : s.cart.acceptsAll = true) : ∃ r, fetchInstr s = .ok r := by
  obtain ⟨op, hop⟩ := memRead_ok_of_accepts h s.pc
  obtain ⟨n, hn⟩ := memRead_ok_of_accepts h (s.pc + 1#16)
  obtain ⟨w, hw⟩ := memRead16_ok_of_accepts h (s.pc + 1#16)
  cases he : baseEntry op <;> exact ⟨_, by simp only [fetchInstr, hop, he, hn, hw]; rfl⟩

/-! ### Accesses that fail only by refusal -/

/-- The access is answered, or the cartridge, which refuses something, refuses it (R53). -/
def BusAccess (s : State) {α : Type} (x : Except Fault α) : Prop :=
  ∀ f, x = .error f → f.ofCart ∧ s.cart.acceptsAll = false

/-- The answer is a next state, or the fault of an access the cartridge refuses (R300). -/
def BusAnswer (s : State) : Answer → Prop
  | .next _ => True
  | .fault f => f.ofCart ∧ s.cart.acceptsAll = false
  | .refused _ => False

theorem busAccess_of {s : State} {α : Type} {x : Except Fault α} (hf : ∀ f, x = .error f → f.ofCart)
    (ha : s.cart.acceptsAll = true → ∃ v, x = .ok v) : BusAccess s x := fun f hx => by
  refine ⟨hf f hx, Bool.eq_false_iff.2 fun hacc => ?_⟩
  obtain ⟨v, hv⟩ := ha hacc
  rw [hv] at hx; cases hx

theorem busAccess_ok (s : State) {α : Type} (v : α) : BusAccess s (.ok v) := fun _ hx => by cases hx

theorem memRead_busAccess {s : State} {a : Word} : BusAccess s (memRead s a) :=
  busAccess_of (fun _ => memRead_ofCart) fun h => memRead_ok_of_accepts h a

theorem memWrite_busAccess {s : State} {a : Word} {v : Byte} : BusAccess s (memWrite s a v) :=
  busAccess_of (fun _ => memWrite_ofCart) fun h => memWrite_ok_of_accepts h a v

theorem memWrite16_busAccess {s : State} {a w : Word} : BusAccess s (memWrite16 s a w) :=
  busAccess_of (fun _ => memWrite16_ofCart) fun h => memWrite16_ok_of_accepts h a w

theorem push16_busAccess {s : State} {w : Word} : BusAccess s (push16 s w) :=
  busAccess_of (fun _ => push16_ofCart) fun h => memWrite16_ok_of_accepts (s := { s with sp := s.sp - 2#16 }) h _ w

theorem pop16_busAccess {s : State} : BusAccess s (pop16 s) := busAccess_of (fun _ => pop16_ofCart) pop16_ok_of_accepts

theorem fetchInstr_busAccess {s : State} : BusAccess s (fetchInstr s) :=
  busAccess_of (fun _ => fetchInstr_ofCart) fetchInstr_ok_of_accepts

theorem readOperand_busAccess {s : State} {o : Operand8} : BusAccess s (readOperand s o) := by
  cases o with
  | reg r => exact busAccess_ok s (s.getReg r)
  | memHL => exact memRead_busAccess

theorem writeOperand_busAccess {s : State} {o : Operand8} {v : Byte} : BusAccess s (writeOperand s o v) := by
  cases o with
  | reg r => exact busAccess_ok s (s.setReg r v)
  | memHL => exact memWrite_busAccess

theorem andThen_busAnswer {s : State} {α : Type} {x : Except Fault α} {k : α → Answer} (hx : BusAccess s x)
    (hk : ∀ v, BusAnswer s (k v)) : BusAnswer s (andThen x k) := by
  cases x with
  | ok v => exact hk v
  | error f => exact hx f rfl

theorem finish_busAnswer (s : State) (m : Nat) (t : State) : BusAnswer s (finish m t) := trivial

/-! ### The instructions -/

/-- One access, then the end of the instruction. -/
theorem andThen_finish_busAnswer {s : State} {α : Type} {x : Except Fault α} (hx : BusAccess s x) (m : Nat)
    (after : α → State) : BusAnswer s (andThen x fun v => finish m (after v)) :=
  andThen_busAnswer hx fun _ => finish_busAnswer ..

/-- An operand read, and written back. -/
theorem updateOperand_busAnswer (s : State) (o : Operand8) (m : Nat) (value : Byte → Byte)
    (after : Byte → State → State) :
    BusAnswer s (andThen (readOperand s o) fun v =>
      andThen (writeOperand s o (value v)) fun s1 => finish m (after v s1)) :=
  andThen_busAnswer readOperand_busAccess fun _ => andThen_finish_busAnswer writeOperand_busAccess m _

theorem callTo_busAnswer (s : State) (a : Word) (m : Nat) : BusAnswer s (callTo a m s) :=
  andThen_finish_busAnswer push16_busAccess ..

theorem returnFrom_busAnswer (s : State) (b : Bool) (m : Nat) : BusAnswer s (returnFrom s b m) :=
  andThen_finish_busAnswer pop16_busAccess ..

theorem ite_busAnswer {s : State} {c : Bool} {x y : Answer} (hx : BusAnswer s x) (hy : BusAnswer s y) :
    BusAnswer s (if c then x else y) := by
  split
  · exact hx
  · exact hy

theorem testBit_busAnswer (s : State) (b : BitVec 3) (o : Operand8) (m : Nat) : BusAnswer s (testBit b o m s) :=
  andThen_finish_busAnswer readOperand_busAccess ..

theorem cbEntry_busAnswer (s : State) (o : Byte) : BusAnswer s (cbEntry o s) := by
  unfold cbEntry
  simp only
  split
  · exact updateOperand_busAnswer ..
  · exact testBit_busAnswer ..
  · exact updateOperand_busAnswer ..
  · exact updateOperand_busAnswer ..

/-- Every operation but an undefined opcode goes on, or is refused an access (R300). -/
theorem run_busAnswer (op : Operation) (s : State) (h : ∀ b, op ≠ .undefined b) : BusAnswer s (op.run s) := by
  cases op
  case undefined b => exact absurd rfl (h b)
  case loadMem => exact andThen_finish_busAnswer memRead_busAccess ..
  case loadMovingHL => exact andThen_finish_busAnswer memRead_busAccess ..
  case aluMem => exact andThen_finish_busAnswer memRead_busAccess ..
  case storeByte => exact andThen_finish_busAnswer memWrite_busAccess ..
  case storeMovingHL => exact andThen_finish_busAnswer memWrite_busAccess ..
  case storeSp => exact andThen_finish_busAnswer memWrite16_busAccess ..
  case push => exact andThen_finish_busAnswer push16_busAccess ..
  case pop => exact andThen_finish_busAnswer pop16_busAccess ..
  case incMem => exact updateOperand_busAnswer s .memHL ..
  case decMem => exact updateOperand_busAnswer s .memHL ..
  case rotate => exact updateOperand_busAnswer ..
  case resetBit => exact updateOperand_busAnswer ..
  case setBit => exact updateOperand_busAnswer ..
  case testBit => exact testBit_busAnswer ..
  case prefixed => exact cbEntry_busAnswer ..
  case jumpIf => exact ite_busAnswer trivial trivial
  case jumpRelIf => exact ite_busAnswer trivial trivial
  case callTo => exact callTo_busAnswer ..
  case callIf => exact ite_busAnswer (callTo_busAnswer ..) trivial
  case ret => exact returnFrom_busAnswer ..
  case reti => exact returnFrom_busAnswer ..
  case retIf => exact ite_busAnswer (returnFrom_busAnswer ..) trivial
  all_goals exact finish_busAnswer ..

/-- Everything an instruction can answer: a next state, or the refusal of an access, or it is an undefined opcode and
answers its fault (R91, R300). -/
theorem exec_answer (i : Instr) (s : State) :
    BusAnswer s (exec i s) ∨ ∃ b, operationOf i = .undefined b ∧ exec i s = .fault (.unknownOpcode .base b) := by
  rw [exec_eq_run]
  by_cases h : ∃ b, operationOf i = .undefined b
  · obtain ⟨b, hb⟩ := h
    exact .inr ⟨b, hb, by rw [hb]; rfl⟩
  · exact .inl (run_busAnswer _ s fun b hb => h ⟨b, hb⟩)

/-! ### `Step()` -/

theorem retire_busAnswer {s : State} {r : Answer} (h : BusAnswer s r) : BusAnswer s (retire r) := by
  cases r with
  | next t => trivial
  | fault f => exact h
  | refused f => exact h

theorem busAnswer_congr {s t : State} (h : s.sameOutsideCpu t) {r : Answer} (hr : BusAnswer t r) : BusAnswer s r := by
  cases r with
  | next u => trivial
  | fault f => exact ⟨hr.1, (acceptsAll_of_sameOutsideCpu h).symm.trans hr.2⟩
  | refused f => exact hr

/-- A fetch moves PC, and that is an effect. -/
theorem fetchInstr_effect {s s1 : State} {i : Instr} (h : fetchInstr s = .ok (i, s1)) : s.effect s1 := by
  obtain ⟨op, -, hs1⟩ := fetchInstr_ok h
  obtain rfl : s1 = _ := hs1
  exact setControl_effect ..

/-- One instruction goes on, or is refused an access, or the byte at PC is an undefined opcode (R85, R91). -/
theorem runInstr_answer (s : State) :
    BusAnswer s (runInstr s) ∨
      ∃ b ∈ Claims.undefinedBytes, memRead s s.pc = .ok b ∧ runInstr s = .fault (.unknownOpcode .base b) := by
  unfold runInstr
  cases hf : fetchInstr { s with arm := s.eiDelay, eiDelay := false } with
  | error f =>
    have hbus := fetchInstr_busAccess f hf
    exact .inl hbus
  | ok r =>
    obtain ⟨i, s1⟩ := r
    rcases exec_answer i s1 with he | ⟨b, hi, he⟩
    · exact .inl (retire_busAnswer (busAnswer_congr (fetchInstr_effect hf).2.2 he))
    · obtain ⟨hb, hmem⟩ := fetchInstr_undefined hf hi
      exact .inr ⟨b, hmem, hb, by simp only [andThen, he, retire]⟩

/-- The halt wake changes `halted` at most, and that is an effect. -/
theorem haltWake_effect (s : State) : s.effect (haltWake s) := by
  rw [haltWake_eq]; exact setControl_effect ..

@[simp] theorem haltWake_pc (s : State) : (haltWake s).pc = s.pc := by rw [haltWake_eq]

@[simp] theorem haltWake_stopped (s : State) : (haltWake s).stopped = s.stopped := by rw [haltWake_eq]

@[simp] theorem haltWake_ime (s : State) : (haltWake s).ime = s.ime := by rw [haltWake_eq]

@[simp] theorem memRead_haltWake (s : State) (a : Word) : memRead (haltWake s) a = memRead s a := by
  rw [haltWake_eq]; rfl

/-- A `Step()` goes on, or is refused an access, or the byte at PC is an undefined opcode (R85, R91, R300). -/
theorem cpuStep_answer (s : State) :
    BusAnswer s (cpuStep s) ∨
      ∃ b ∈ Claims.undefinedBytes, memRead s s.pc = .ok b ∧ cpuStep s = .fault (.unknownOpcode .base b) := by
  unfold cpuStep
  split
  · exact .inl trivial
  simp only
  split
  · exact .inl (busAnswer_congr (haltWake_effect s).2.2 (andThen_finish_busAnswer push16_busAccess ..))
  split
  · exact .inl trivial
  rcases runInstr_answer (haltWake s) with h | ⟨b, hb, hpc, h⟩
  · exact .inl (busAnswer_congr (haltWake_effect s).2.2 h)
  · exact .inr ⟨b, hb, by simpa using hpc, h⟩

/-- A `Step()` that goes on changes memory, F and the rest of the machine only as `State.effect` says (R85). -/
theorem cpuStep_effect {s t : State} (h : cpuStep s = .next t) : s.effect t := by
  rcases cpuStep_next h with ⟨-, rfl⟩ | ⟨-, -, -, hi⟩ | ⟨-, -, -, rfl⟩ | ⟨-, -, -, hr⟩
  · exact setControl_effect ..
  · exact effect_trans (haltWake_effect s) (serviceInterrupt_effect hi).1
  · exact effect_trans (haltWake_effect s) (setCycles_plain ..).1
  · obtain ⟨i, s1, u, hf, hu, rfl⟩ := runInstr_next hr
    have hfetch : (haltWake s).effect s1 := effect_trans (setControl_effect ..) (fetchInstr_effect hf)
    exact effect_trans (effect_trans (effect_trans (haltWake_effect s) hfetch) (exec_effect hu)) (setControl_effect ..)

/-! ### The tick -/

theorem tick_of_running {P : Config.Params} {s : State} (h : s.status = .running) :
    tick P s = match cpuStep (envPhase P s) with
      | .next t => .next (apuRun P ((4 * t.cycles : Nat) : Rat) t)
      | .fault f => .fault f
      | .refused r => .refused r := by
  cases hc : cpuStep (envPhase P s) <;> simp only [tick, h, hc]

theorem envPhase_pc (P : Config.Params) (s : State) : (envPhase P s).pc = s.pc := by
  rw [(envPhase_work P s).1]

theorem envPhase_status (P : Config.Params) (s : State) : (envPhase P s).status = s.status := by
  rw [(envPhase_work P s).1]

theorem envPhase_acceptsAll (P : Config.Params) (s : State) :
    (envPhase P s).cart.acceptsAll = s.cart.acceptsAll := by
  rw [(envPhase_work P s).1]
  rfl

/-- A tick of a running machine goes on, or is refused an access, or the byte at PC is an undefined opcode (R4, R300). -/
theorem tick_answer {P : Config.Params} {s : State} (hrun : s.status = .running) :
    BusAnswer s (tick P s) ∨
      ∃ b ∈ Claims.undefinedBytes, memRead (envPhase P s) s.pc = .ok b ∧
        tick P s = .fault (.unknownOpcode .base b) := by
  rw [tick_of_running hrun]
  rcases cpuStep_answer (envPhase P s) with h | ⟨b, hb, hpc, h⟩
  · left
    cases hc : cpuStep (envPhase P s) <;> rw [hc] at h
    case next => trivial
    case fault => exact ⟨h.1, (envPhase_acceptsAll P s).symm.trans h.2⟩
    case refused => exact h
  · exact .inr ⟨b, hb, envPhase_pc P s ▸ hpc, by rw [h]⟩

/-- A tick that goes on leaves the machine running and the cartridge's answers as they are (R4, R53). -/
theorem tick_keeps_running_acceptsAll {P : Config.Params} {s t : State} (h : tick P s = .next t) :
    t.status = .running ∧ t.cart.acceptsAll = s.cart.acceptsAll := by
  obtain ⟨hrun, u, hu, rfl⟩ := tick_next h
  obtain ⟨-, -, hout⟩ := cpuStep_effect hu
  rw [(apuRun_apuWork P _ u).1]
  exact ⟨hout.2.1.trans ((envPhase_status P s).trans hrun),
    (acceptsAll_of_sameOutsideCpu hout).trans (envPhase_acceptsAll P s)⟩

/-- Settles O43: every access is answered by such a cartridge, so `Step()` goes on unless the byte at PC is an undefined
opcode; and a tick that goes on keeps the run status and the cartridge's answers. -/
theorem neverStuck : Obligations.NeverStuck := by
  unfold Obligations.NeverStuck
  intro s hrun hacc
  rcases tick_answer (P := Config.default) hrun with h | hundef
  · left
    cases ht : tick Config.default s <;> rw [ht] at h
    case next t =>
      obtain ⟨hst, hc⟩ := tick_keeps_running_acceptsAll ht
      exact ⟨t, ht, hst, hc.trans hacc⟩
    case fault f => exact absurd (h.2.symm.trans hacc) Bool.false_ne_true
    case refused r => exact h.elim
  · exact .inr hundef

end Sys2Proof.Machine
end

section
/-! PROOFS. What the environment can reach at the default ENV_REGS (spec/00_scope.md R5): a move leaves every other
stored byte and version, and only raises bits 4:0 of IF. -/

namespace Sys2Proof.Machine

/-- The addresses R5 lets the environment write at the default ENV_REGS: OAM, ENV_REGS and IF. -/
def envReach (n : Nat) : Prop :=
  (0xFE00 ≤ n ∧ n < 0xFEA0) ∨ (0xFF00 ≤ n ∧ n ≤ 0xFF07) ∨ (0xFF40 ≤ n ∧ n ≤ 0xFF4B) ∨ n = 0xFF0F

theorem storageAddr_of_oam {a : Word} (h : regionOf a = .oam) : 0xFE00 ≤ storageAddr a ∧ storageAddr a < 0xFEA0 := by
  simp only [regionOf] at h
  simp only [storageAddr]
  split_ifs at h ⊢ <;> omega

theorem defaultEnvRegs_iff (a : Word) : Config.default.envRegs a = true ↔
    (0xFF00 ≤ a.toNat ∧ a.toNat ≤ 0xFF07) ∨ (0xFF40 ≤ a.toNat ∧ a.toNat ≤ 0xFF4B) := by
  simp only [Config.default, Config.defaultEnvRegs, Bool.or_eq_true, decide_eq_true_eq]

theorem handleWrite_get_of_ne {s : State} {a : Word} {v : Byte} {n : Nat} (h : n ≠ a.toNat) :
    Memory.get (handleWrite s a v).mem n = Memory.get s.mem n ∧
      Versions.get (handleWrite s a v).versions n = Versions.get s.versions n :=
  ⟨Memory.get_put_of_ne h, Versions.get_put_of_ne h⟩

theorem envMove_get_of_not_reach (s : State) (m : EnvMove) {n : Nat} (hn : ¬ envReach n) :
    Memory.get (envMove Config.default s m).mem n = Memory.get s.mem n ∧
      Versions.get (envMove Config.default s m).versions n = Versions.get s.versions n := by
  unfold envReach at hn
  cases m with
  | requestIrq bits => exact handleWrite_get_of_ne fun h => hn (.inr (.inr (.inr h)))
  | writeReg a v =>
    simp only [envMove]
    split
    · rename_i ha
      rw [Bool.and_eq_true, defaultEnvRegs_iff] at ha
      exact handleWrite_get_of_ne (by omega)
    · exact ⟨rfl, rfl⟩
  | writeOam a v =>
    simp only [envMove]
    split
    · rename_i ha
      have := storageAddr_of_oam ha
      exact ⟨Memory.get_put_of_ne (by omega), rfl⟩
    · exact ⟨rfl, rfl⟩
  | setCart cs => exact ⟨rfl, rfl⟩

/-- What a move does to IF is to set bits of 4:0 (R5, R311). -/
theorem envMove_if {s : State} (hs : s.memOk) (m : EnvMove) :
    ∃ bits : BitVec 5, handleValue (envMove Config.default s m) ioIF = handleValue s ioIF ||| bits.setWidth 8 := by
  have hsame : handleValue s ioIF = handleValue s ioIF ||| (0#5).setWidth 8 := by simp
  cases m with
  | requestIrq bits => exact ⟨bits, by simp only [envMove, handleValue_handleWrite hs, if_true]⟩
  | writeReg a v =>
    refine ⟨0#5, hsame ▸ ?_⟩
    simp only [envMove]
    split
    · rename_i ha
      rw [Bool.and_eq_true, defaultEnvRegs_iff] at ha
      rw [handleValue_handleWrite hs, if_neg]
      rintro rfl
      exact absurd ha.1 (by decide)
    · rfl
  | writeOam a v =>
    refine ⟨0#5, hsame ▸ ?_⟩
    simp only [envMove]
    split
    · rename_i ha
      have := storageAddr_of_oam ha
      exact Memory.get_put_of_ne (show (0xFF0F : Nat) ≠ storageAddr a by omega)
    · rfl
  | setCart cs => exact ⟨0#5, hsame⟩

theorem envMoves_get_of_not_reach (l : List EnvMove) (s : State) {n : Nat} (hn : ¬ envReach n) :
    Memory.get (l.foldl (envMove Config.default) s).mem n = Memory.get s.mem n ∧
      Versions.get (l.foldl (envMove Config.default) s).versions n = Versions.get s.versions n := by
  induction l generalizing s with
  | nil => exact ⟨rfl, rfl⟩
  | cons m l ih =>
    obtain ⟨hm, hv⟩ := envMove_get_of_not_reach s m hn
    obtain ⟨hm', hv'⟩ := ih (envMove Config.default s m)
    exact ⟨hm'.trans hm, hv'.trans hv⟩

theorem envMoves_if (l : List EnvMove) {s : State} (hs : s.memOk) :
    ∃ bits : BitVec 5,
      handleValue (l.foldl (envMove Config.default) s) ioIF = handleValue s ioIF ||| bits.setWidth 8 := by
  induction l generalizing s with
  | nil => exact ⟨0#5, by simp⟩
  | cons m l ih =>
    obtain ⟨-, -, hwork⟩ := envMove_work Config.default s m
    obtain ⟨b, hb⟩ := envMove_if hs m
    obtain ⟨c, hc⟩ := ih (hwork hs).1
    exact ⟨b ||| c, by rw [List.foldl_cons, hc, hb, BitVec.or_assoc, BitVec.setWidth_or]⟩

theorem envPhase_get_of_not_reach (s : State) {n : Nat} (hn : ¬ envReach n) :
    Memory.get (envPhase Config.default s).mem n = Memory.get s.mem n ∧
      Versions.get (envPhase Config.default s).versions n = Versions.get s.versions n := by
  unfold envPhase
  split
  · exact ⟨rfl, rfl⟩
  · rename_i moves rest he
    exact envMoves_get_of_not_reach moves { s with env := rest } hn

theorem envPhase_if {s : State} (hs : s.memOk) :
    ∃ bits : BitVec 5, handleValue (envPhase Config.default s) ioIF = handleValue s ioIF ||| bits.setWidth 8 := by
  unfold envPhase
  split
  · exact ⟨0#5, by simp⟩
  · rename_i moves rest he
    exact envMoves_if moves (s := { s with env := rest }) hs

/-- Settles O55: a phase is a list of moves; none writes outside OAM, ENV_REGS and IF, and IF is ORed with five bits. -/
theorem environmentLimits : Obligations.EnvironmentLimits := by
  unfold Obligations.EnvironmentLimits
  rintro s t hs rfl
  obtain ⟨bits, hif⟩ := envPhase_if hs
  refine ⟨(envPhase_work Config.default s).1, fun n h1 h2 h3 h4 => envPhase_get_of_not_reach s ?_, fun k hk => ?_,
    fun k hk => ?_⟩
  · simp only [envReach, h1, h2, h3, h4, or_self, not_false_eq_true]
  · rw [hif, BitVec.getLsbD_or, hk, Bool.true_or]
  · rw [hif, BitVec.getLsbD_or, BitVec.getLsbD_setWidth, BitVec.getLsbD_of_ge bits k hk, Bool.and_false, Bool.or_false]

end Sys2Proof.Machine
end

section
/-! PROOFS. The step that runs an instruction (spec/30_encoding.md R83, R85). -/

namespace Sys2Proof.Machine

theorem readsBytes_congr {s t : State} (h : ∀ a, memRead t a = memRead s a) {bs : List Byte} {a : Word}
    (hb : readsBytes s a bs) : readsBytes t a bs := by
  induction bs generalizing a with
  | nil => trivial
  | cons v bs ih => exact ⟨(h a).trans hb.1, ih hb.2⟩

theorem cpuStep_eq_runInstr {s : State} (hstop : s.stopped = false) (hhalt : (haltWake s).halted = false)
    (hint : s.ime = false ∨ pending s = 0#8) : cpuStep s = runInstr (haltWake s) := by
  have hidle : (s.ime && decide (pending s ≠ 0#8)) = false := by
    rcases hint with h | h <;> simp [h]
  simp only [cpuStep, haltWake_ime, pending_haltWake, hstop, hidle, hhalt, Bool.false_eq_true, if_false]

/-- At the bytes of one instruction, running is executing the decoder's instruction (R85, R87). -/
theorem runInstr_of_decode {s : State} {bs : List Byte} {i : Instr} (hb : readsBytes s s.pc bs)
    (hd : decode bs = .ok (i, [])) :
    runInstr s =
      retire (exec i { s with pc := s.pc + BitVec.ofNat 16 bs.length, arm := s.eiDelay, eiDelay := false }) := by
  have hread : ∀ a, memRead { s with arm := s.eiDelay, eiDelay := false } a = memRead s a := fun _ => rfl
  rw [runInstr, fetchInstr_of_decode (readsBytes_congr hread hb) hd]
  rfl

/-- Settles O4: the step is `runInstr` on the state after the halt wake, and its fetch gives the decoder's
instruction. -/
theorem stepRunsDecodedInstruction : Obligations.StepRunsDecodedInstruction := by
  unfold Obligations.StepRunsDecodedInstruction
  rintro s e bs i hrun rfl hstop hhalt hint hb hd
  rw [haltWake_stopped] at hstop
  rw [haltWake_ime, pending_haltWake] at hint
  rw [step, tick_of_running hrun, cpuStep_eq_runInstr hstop hhalt hint, runInstr_of_decode hb hd]
  cases exec i _ <;> rfl

end Sys2Proof.Machine
end

section
/-! PROOFS. The invariants of the step (spec/10_state.md R11, R29, R41, R42): the environment, `Step()` and the APU each let
memory evolve, keep F's low nibble and the APU's ranges, and leave no `arm`; so a tick does. -/

namespace Sys2Proof.Machine

/-! ### Memory -/

/-- A tick that goes on changes memory as `evolves` says (R4, R29, R52, R61). -/
theorem tick_evolves {P : Config.Params} {s t : State} (hs : s.memOk) (h : tick P s = .next t) : s.evolves t := by
  obtain ⟨-, u, hu, rfl⟩ := tick_next h
  have henv : s.evolves (envPhase P s) := (envPhase_work P s).2.2 hs
  have hcpu : (envPhase P s).evolves u := (cpuStep_effect hu).1 henv.1
  have hapu : u.evolves (apuRun P ((4 * u.cycles : Nat) : Rat) u) := (apuRun_apuWork P _ u).2 hcpu.1
  exact evolves_trans henv (evolves_trans hcpu hapu)

/-- Settles O54: `evolves` says all of it, and every stage of a tick changes memory that way. -/
theorem stepKeepsRomAndVersions : Obligations.StepKeepsRomAndVersions := by
  unfold Obligations.StepKeepsRomAndVersions
  intro s t hs h
  exact (tick_evolves hs h).2

/-! ### Registers, `arm` and the APU -/

theorem envPhase_flagsOk {P : Config.Params} {s : State} (h : s.flagsOk) : (envPhase P s).flagsOk := by
  rw [(envPhase_work P s).1]; exact h

theorem envPhase_apu (P : Config.Params) (s : State) : (envPhase P s).apu = s.apu := by
  rw [(envPhase_work P s).1]

theorem envPhase_arm (P : Config.Params) (s : State) : (envPhase P s).arm = s.arm := by
  rw [(envPhase_work P s).1]

theorem apuRun_flagsOk {P : Config.Params} {d : Rat} {s : State} (h : s.flagsOk) : (apuRun P d s).flagsOk := by
  rw [(apuRun_apuWork P d s).1]; exact h

theorem apuRun_arm (P : Config.Params) (d : Rat) (s : State) : (apuRun P d s).arm = s.arm := by
  rw [(apuRun_apuWork P d s).1]

@[simp] theorem haltWake_arm (s : State) : (haltWake s).arm = s.arm := by rw [haltWake_eq]

/-- A `Step()` leaves no `arm`: an instruction clears it, and nothing else in a step sets it (R85). -/
theorem cpuStep_arm {s t : State} (hs : s.arm = false) (h : cpuStep s = .next t) : t.arm = false := by
  rcases cpuStep_next h with ⟨-, rfl⟩ | ⟨-, -, -, hservice⟩ | ⟨-, -, -, rfl⟩ | ⟨-, -, -, hrun⟩
  · exact hs
  · obtain ⟨-, -, -, -, -, harm⟩ := serviceInterrupt_effect hservice
    rw [harm, haltWake_arm, hs]
  · exact (haltWake_arm s).trans hs
  · obtain ⟨-, -, u, -, -, rfl⟩ := runInstr_next hrun
    rfl

/-- A tick keeps the invariant, at any parameters that give no negative frequency. -/
theorem tick_inv {P : Config.Params} (hP : Config.nonneg P) {s t : State} (hs : s.Inv) (h : tick P s = .next t) :
    t.Inv := by
  obtain ⟨hmem, hflags, hapu, harm⟩ := hs
  have hevolves := tick_evolves hmem h
  obtain ⟨-, u, hu, rfl⟩ := tick_next h
  obtain ⟨-, hcpuFlags, hcpuApu, -⟩ := cpuStep_effect hu
  refine ⟨hevolves.1, apuRun_flagsOk (hcpuFlags (envPhase_flagsOk hflags)), apuRun_ok hP (Nat.cast_nonneg _) ?_, ?_⟩
  · rwa [hcpuApu, envPhase_apu]
  · rw [apuRun_arm]
    exact cpuStep_arm ((envPhase_arm P s).trans harm) hu

/-- Settles O53: the step is the tick at the default parameters, which give no negative frequency. -/
theorem stepKeepsInv : Obligations.StepKeepsInv := by
  unfold Obligations.StepKeepsInv
  intro s t hs h
  exact tick_inv Config.default_nonneg hs h

/-! ### The launch -/

theorem apuReset_ok : Apu.reset.ok := by
  have hvoice : Voice.reset.ok := ⟨le_rfl, le_rfl, zero_le_one⟩
  have henv {P : Type} : (Envelope.reset : Envelope P).ok := le_rfl
  exact ⟨⟨hvoice, hvoice, hvoice, hvoice⟩, ⟨rfl, rfl, rfl⟩, henv, henv, henv, henv, henv, henv, henv, henv⟩

theorem launch_inv (r : Config.ResetRegs) (cart : Cart) {mem : Memory} (env : List (List EnvMove))
    (h : Memory.wf mem) : (State.launch r cart mem env).Inv :=
  ⟨⟨h, Versions.nil_wf⟩, maskF_low r.f, apuReset_ok, rfl⟩

/-- Settles O52: no version is listed, F is masked and the APU is its reset; the reset state is the launch with nothing
listed in memory. -/
theorem resetInv : Obligations.ResetInv := by
  unfold Obligations.ResetInv
  exact ⟨fun r cart _ env h => launch_inv r cart env h, launch_inv _ _ _ Memory.nil_wf⟩

end Sys2Proof.Machine
end

section
/-! PROOFS. A fault ends the run (spec/60_exceptions.md R301). -/

namespace Sys2Proof.Machine

theorem tick_of_faulted (P : Config.Params) {s : State} {f : Fault} (h : s.status = .faulted f) :
    tick P s = .fault f := by
  simp only [tick, h]

theorem afterTick_of_fault {P : Config.Params} {s : State} {f : Fault} (hrun : s.status = .running)
    (h : tick P s = .fault f) : afterTick P s = { envPhase P s with status := .faulted f } := by
  simp only [afterTick, h, hrun, if_true]

theorem afterTick_of_faulted (P : Config.Params) {s : State} {f : Fault} (h : s.status = .faulted f) :
    afterTick P s = s := by
  simp only [afterTick, tick_of_faulted P h, h, reduceCtorEq, if_false]

theorem runTicks_of_faulted (P : Config.Params) {s : State} {f : Fault} (h : s.status = .faulted f) (k : Nat) :
    runTicks P k s = s := by
  induction k with
  | zero => rfl
  | succ k ih => rw [runTicks, afterTick_of_faulted P h, ih]

/-- Settles O41: the state after a fault keeps the environment's moves and nothing of `Step()`, and a faulted state is its
own next. -/
theorem faultEndsRun : Obligations.FaultEndsRun := by
  unfold Obligations.FaultEndsRun
  exact fun P s f => ⟨afterTick_of_fault, fun h => ⟨tick_of_faulted P h, runTicks_of_faulted P h⟩⟩

end Sys2Proof.Machine
end

section
/-! PROOFS. Register pairs (spec/10_state.md R12). -/

namespace Sys2Proof.Machine

theorem joinWord_toNat (hi lo : Byte) : (joinWord hi lo).toNat = 256 * hi.toNat + lo.toNat := by
  rw [joinWord, BitVec.toNat_append, Nat.shiftLeft_eq, Nat.mul_comm, ← Nat.two_pow_add_eq_or_of_lt lo.isLt]

/-- F stores bits 7:4 of the low byte, so AF reads back with bits 3:0 cleared. -/
theorem joinWord_maskF (w : Word) : joinWord (hiByte w) (loByte w &&& 0xF0#8) = w &&& 0xFFF0#16 :=
  calc joinWord (hiByte w) (loByte w &&& 0xF0#8)
      = joinWord (hiByte w &&& BitVec.allOnes 8) (loByte w &&& 0xF0#8) := by rw [BitVec.and_allOnes]
    _ = joinWord (hiByte w) (loByte w) &&& joinWord (BitVec.allOnes 8) 0xF0#8 := BitVec.and_append.symm
    _ = w &&& 0xFFF0#16 := by rw [joinWord_hiByte_loByte]; rfl

theorem getPair_setPair_of_ne (s : State) {p q : Pair} (w : Word) (h : q ≠ p) :
    (s.setPair p w).getPair q = s.getPair q := by
  cases p <;> cases q
  case bc.bc | de.de | hl.hl | sp.sp => exact absurd rfl h
  all_goals rfl

theorem getStackPair_setStackPair_self (s : State) (p : StackPair) (w : Word) :
    (s.setStackPair p w).getStackPair p = if p = .af then w &&& 0xFFF0#16 else w := by
  cases p with
  | af => exact joinWord_maskF w
  | bc | de | hl => exact joinWord_hiByte_loByte w

theorem getStackPair_setStackPair_of_ne (s : State) {p q : StackPair} (w : Word) (h : q ≠ p) :
    (s.setStackPair p w).getStackPair q = s.getStackPair q := by
  cases p <;> cases q
  case bc.bc | de.de | hl.hl | af.af => exact absurd rfl h
  all_goals rfl

/-- Settles O6, by read after write of the same and of another pair or register. -/
theorem registerPairs : Obligations.RegisterPairs := by
  unfold Obligations.RegisterPairs
  refine ⟨fun s => ⟨joinWord_toNat .., joinWord_toNat .., joinWord_toNat .., joinWord_toNat ..⟩,
    fun s p q w => ?_, fun s p q w => ?_, fun s r q v => ?_⟩
  · split_ifs with h
    · rw [h, getPair_setPair_self]
    · exact getPair_setPair_of_ne s w h
  · split_ifs with h hp
    · rw [h, getStackPair_setStackPair_self, if_pos hp]
    · rw [h, getStackPair_setStackPair_self, if_neg hp]
    · exact getStackPair_setStackPair_of_ne s w h
  · split_ifs with h
    · rw [h, getReg_setReg_self]
    · exact getReg_setReg_of_ne s v h

end Sys2Proof.Machine
end

section
/-! PROOFS. What an instruction may write of the CPU's registers and control state (spec/10_state.md R10 to R18): a set of
writes for each shared operation of `Laws/Exec.lean`, and the frame around it. -/

namespace Sys2Proof.Machine

/-! ### Writes and their frames -/

/-- A set of writes: general registers, SP, F, and the control state of R15 to R18. -/
structure Writes where
  regs : List Reg8 := []
  sp : Bool := false
  f : Bool := false
  ime : Bool := false
  eiDelay : Bool := false
  halted : Bool := false
  stopped : Bool := false
  arm : Bool := false

/-- `t` is `s` in the registers and the control state that `w` does not name. -/
structure Writes.Frame (w : Writes) (s t : State) : Prop where
  regs : ∀ r, r ∉ w.regs → t.getReg r = s.getReg r := by intros; rfl
  sp : w.sp = false → t.sp = s.sp := by intros; rfl
  f : w.f = false → t.f = s.f := by intros; rfl
  ime : w.ime = false → t.ime = s.ime := by intros; rfl
  eiDelay : w.eiDelay = false → t.eiDelay = s.eiDelay := by intros; rfl
  halted : w.halted = false → t.halted = s.halted := by intros; rfl
  stopped : w.stopped = false → t.stopped = s.stopped := by intros; rfl
  arm : w.arm = false → t.arm = s.arm := by intros; rfl

section
variable {w : Writes} {s t u : State}

theorem frame_trans (h1 : w.Frame s t) (h2 : w.Frame t u) : w.Frame s u where
  regs r h := (h2.regs r h).trans (h1.regs r h)
  sp h := (h2.sp h).trans (h1.sp h)
  f h := (h2.f h).trans (h1.f h)
  ime h := (h2.ime h).trans (h1.ime h)
  eiDelay h := (h2.eiDelay h).trans (h1.eiDelay h)
  halted h := (h2.halted h).trans (h1.halted h)
  stopped h := (h2.stopped h).trans (h1.stopped h)
  arm h := (h2.arm h).trans (h1.arm h)

theorem frame_setPc (s : State) (pc : Word) (m : Nat) : w.Frame s { s with pc := pc, cycles := m } := {}

theorem frame_setCycles (s : State) (m : Nat) : w.Frame s { s with cycles := m } := {}

theorem frame_finish {m : Nat} (h : finish m u = .next t) (hu : w.Frame s u) : w.Frame s t :=
  finish_next h ▸ frame_trans hu (frame_setCycles ..)

theorem frame_sameButBus (h : s.sameButBus t) : w.Frame s t := by
  rw [State.sameButBus] at h
  rw [h]
  exact {}

theorem frame_setReg {r : Reg8} (hr : r ∈ w.regs) (s : State) (v : Byte) : w.Frame s (s.setReg r v) where
  regs _ hq := getReg_setReg_of_ne s v fun h => hq (h ▸ hr)
  sp _ := setReg_sp ..
  f _ := setReg_f ..
  ime _ := setReg_ime ..
  eiDelay _ := setReg_eiDelay ..
  halted _ := setReg_halted ..
  stopped _ := setReg_stopped ..
  arm _ := setReg_arm ..

theorem frame_setA (ha : Reg8.a ∈ w.regs) (s : State) (v : Byte) : w.Frame s { s with a := v } := frame_setReg ha s v

theorem frame_setF (hf : w.f = true) (s : State) (v : Byte) : w.Frame s { s with f := v } where
  f h := absurd hf (Bool.eq_false_iff.1 h)

theorem frame_setFlags (hf : w.f = true) (s : State) (z n h c : Bool) : w.Frame s (s.setFlags z n h c) :=
  frame_setF hf s (flagByte z n h c)

theorem frame_setSp (hsp : w.sp = true) (s : State) (a : Word) : w.Frame s { s with sp := a } where
  sp h := absurd hsp (Bool.eq_false_iff.1 h)

/-- A write of two registers, as of a pair. -/
theorem frame_setReg_setReg {r q : Reg8} (hr : r ∈ w.regs) (hq : q ∈ w.regs) (s : State) (x y : Byte) :
    w.Frame s ((s.setReg r x).setReg q y) :=
  frame_trans (frame_setReg hr ..) (frame_setReg hq ..)

theorem frame_setHl (hh : Reg8.h ∈ w.regs) (hl : Reg8.l ∈ w.regs) (s : State) (x : Word) :
    w.Frame s (s.setPair .hl x) :=
  frame_setReg_setReg hh hl s (hiByte x) (loByte x)

theorem frame_push16 (hsp : w.sp = true) {x : Word} (h : push16 s x = .ok t) : w.Frame s t :=
  frame_trans (frame_setSp hsp ..) (frame_sameButBus (push16_frame h))

end

/-! ### The writes of an operation -/

/-- A write of a register pair: of its two registers, or of SP. -/
def pairWrites : Pair → Writes
  | .bc => { regs := [.b, .c] }
  | .de => { regs := [.d, .e] }
  | .hl => { regs := [.h, .l] }
  | .sp => { sp := true }

/-- A pop: of SP, and of the pair's two registers or of A and F. -/
def popWrites : StackPair → Writes
  | .bc => { regs := [.b, .c], sp := true }
  | .de => { regs := [.d, .e], sp := true }
  | .hl => { regs := [.h, .l], sp := true }
  | .af => { regs := [.a], sp := true, f := true }

/-- A write of an operand, which is no register where it is the byte at HL, and of F where `f` says so. -/
def operandWrites (f : Bool) : Operand8 → Writes
  | .reg r => { regs := [r], f := f }
  | .memHL => { f := f }

/-- The writes of a CB entry of class `c`: F by a rotate (class 0) and by `BIT` (class 1), a register operand by all but
`BIT` (R81, R89). -/
def cbWrites (c : BitVec 2) (o : Operand8) : Writes where
  regs := match o with
    | .reg r => if c = 1#2 then [] else [r]
    | .memHL => []
  f := decide (c.toNat < 2)

/-- The registers and the control state an operation may write. -/
def Operation.writes : Operation → Writes
  | .loadReg dst _ | .loadImm dst _ | .loadMem dst _ _ => { regs := [dst] }
  | .storeMovingHL _ => { regs := [.h, .l] }
  | .loadMovingHL _ => { regs := [.h, .l, .a] }
  | .loadPair p _ | .incPair p | .decPair p => pairWrites p
  | .loadSpHL | .push _ | .callTo _ _ | .callIf _ _ | .ret | .retIf _ => { sp := true }
  | .loadHlSp _ | .addHl _ => { regs := [.h, .l], f := true }
  | .pop p => popWrites p
  | .alu op _ _ | .aluMem op => { regs := if op = .cp then [] else [.a], f := true }
  | .incReg r | .decReg r => { regs := [r], f := true }
  | .incMem | .decMem | .scf | .ccf | .testBit _ _ _ => { f := true }
  | .daa | .cpl | .rotateA _ => { regs := [.a], f := true }
  | .addSp _ => { sp := true, f := true }
  | .rotate _ o _ => operandWrites true o
  | .resetBit _ o _ | .setBit _ o _ => operandWrites false o
  | .reti => { sp := true, ime := true }
  | .stop => { stopped := true }
  | .halt => { halted := true }
  | .di => { ime := true, arm := true }
  | .ei => { eiDelay := true }
  | .prefixed o => cbWrites (o.extractLsb' 6 2) (operandOfIndex (o.extractLsb' 0 3))
  | .storeByte _ _ _ | .storeSp _ | .jump _ | .jumpHL | .jumpRel _ | .jumpIf _ _ | .jumpRelIf _ _ | .nop
  | .undefined _ => {}

/-! ### Every operation stays in its frame -/

theorem setPair_frame (s : State) (p : Pair) (x : Word) : (pairWrites p).Frame s (s.setPair p x) := by
  cases p with
  | bc => exact frame_setReg_setReg (r := .b) (q := .c) (.head _) (.tail _ (.head _)) s (hiByte x) (loByte x)
  | de => exact frame_setReg_setReg (r := .d) (q := .e) (.head _) (.tail _ (.head _)) s (hiByte x) (loByte x)
  | hl => exact frame_setHl (.head _) (.tail _ (.head _)) s x
  | sp => exact frame_setSp rfl s x

theorem popPair_frame {p : StackPair} {s t : State} (h : popPair p s = .next t) : (popWrites p).Frame s t := by
  obtain ⟨x, -, rfl⟩ := popPair_next h
  refine frame_trans (frame_trans (frame_setSp (by cases p <;> rfl) s (s.sp + 2#16)) ?_) (frame_setCycles ..)
  cases p with
  | bc => exact frame_setReg_setReg (r := .b) (q := .c) (.head _) (.tail _ (.head _)) _ (hiByte x) (loByte x)
  | de => exact frame_setReg_setReg (r := .d) (q := .e) (.head _) (.tail _ (.head _)) _ (hiByte x) (loByte x)
  | hl => exact frame_setReg_setReg (r := .h) (q := .l) (.head _) (.tail _ (.head _)) _ (hiByte x) (loByte x)
  | af => exact frame_trans (frame_setA (.head _) _ (hiByte x)) (frame_setF rfl _ (loByte x &&& 0xF0#8))

theorem writeOperand_inFrame {s t : State} {o : Operand8} {v : Byte} (f : Bool) (h : writeOperand s o v = .ok t) :
    (operandWrites f o).Frame s t := by
  rcases writeOperand_frame h with ⟨r, rfl, rfl⟩ | ⟨rfl, hw⟩
  · exact frame_setReg (.head _) s v
  · exact frame_sameButBus (memWrite_frame hw)

theorem operandWrites_f (f : Bool) (o : Operand8) : (operandWrites f o).f = f := by cases o <;> rfl

theorem aluApply_frame (op : AluOp) (v : Byte) (s : State) :
    Writes.Frame { regs := if op = .cp then [] else [.a], f := true } s (aluApply op v s) := by
  unfold aluApply
  simp only
  split
  · exact frame_setFlags rfl ..
  · exact frame_trans (frame_setA (by simp) ..) (frame_setFlags rfl ..)

theorem rotateOperand_frame {op : RotOp} {o : Operand8} {m : Nat} {s t : State}
    (h : rotateOperand op o m s = .next t) : (operandWrites true o).Frame s t := by
  obtain ⟨v, s1, -, h1, rfl⟩ := rotateOperand_next h
  exact frame_trans (frame_trans (writeOperand_inFrame true h1) (frame_setFlags (operandWrites_f ..) ..))
    (frame_setCycles ..)

theorem testBit_frame {b : BitVec 3} {o : Operand8} {m : Nat} {s t : State} (h : testBit b o m s = .next t) :
    Writes.Frame { f := true } s t := by
  obtain ⟨v, -, rfl⟩ := testBit_next h
  exact frame_trans (frame_setFlags rfl ..) (frame_setCycles ..)

theorem resetBit_frame {b : BitVec 3} {o : Operand8} {m : Nat} {s t : State} (h : resetBit b o m s = .next t) :
    (operandWrites false o).Frame s t := by
  obtain ⟨v, s1, -, h1, rfl⟩ := resetBit_next h
  exact frame_trans (writeOperand_inFrame false h1) (frame_setCycles ..)

theorem setBit_frame {b : BitVec 3} {o : Operand8} {m : Nat} {s t : State} (h : setBit b o m s = .next t) :
    (operandWrites false o).Frame s t := by
  obtain ⟨v, s1, -, h1, rfl⟩ := setBit_next h
  exact frame_trans (writeOperand_inFrame false h1) (frame_setCycles ..)

theorem cbWrites_rotate (o : Operand8) : cbWrites 0#2 o = operandWrites true o := by cases o <;> rfl

theorem cbWrites_test (o : Operand8) : cbWrites 1#2 o = { f := true } := by cases o <;> rfl

theorem cbWrites_reset (o : Operand8) : cbWrites 2#2 o = operandWrites false o := by cases o <;> rfl

theorem cbWrites_set (o : Operand8) : cbWrites 3#2 o = operandWrites false o := by cases o <;> rfl

/-- The class of a CB entry is one of four (R81). -/
theorem cbClass_cases : ∀ c : BitVec 2, c = 0#2 ∨ c = 1#2 ∨ c = 2#2 ∨ c = 3#2 := by decide

theorem cbEntry_frame {o : Byte} {s t : State} (h : cbEntry o s = .next t) :
    (cbWrites (o.extractLsb' 6 2) (operandOfIndex (o.extractLsb' 0 3))).Frame s t := by
  simp only [cbEntry] at h
  rcases cbClass_cases (o.extractLsb' 6 2) with hc | hc | hc | hc <;> rw [hc] at h ⊢
  · exact cbWrites_rotate _ ▸ rotateOperand_frame h
  · exact cbWrites_test _ ▸ testBit_frame h
  · exact cbWrites_reset _ ▸ resetBit_frame h
  · exact cbWrites_set _ ▸ setBit_frame h

theorem returnFrom_frame {b : Bool} {m : Nat} {s t : State} (h : returnFrom s b m = .next t) :
    Writes.Frame { sp := true, ime := b } s t := by
  obtain ⟨x, -, rfl⟩ := returnFrom_next h
  exact { sp := nofun, ime := fun hb => (congrArg _ hb).trans (Bool.or_false _) }

/-- An operation that completes writes nothing but what it names. -/
theorem run_frame {op : Operation} {s t : State} (h : op.run s = .next t) : op.writes.Frame s t := by
  cases op <;> simp only [Operation.run] at h
  case loadReg | loadImm => exact frame_finish h (frame_setReg (.head _) ..)
  case loadMem =>
    obtain ⟨v, -, rfl⟩ := loadMem_next h
    exact frame_trans (frame_setReg (.head _) ..) (frame_setCycles ..)
  case storeByte =>
    obtain ⟨s1, h1, rfl⟩ := storeByte_next h
    exact frame_trans (frame_sameButBus (memWrite_frame h1)) (frame_setCycles ..)
  case storeSp =>
    obtain ⟨s1, h1, rfl⟩ := storeSp_next h
    exact frame_trans (frame_sameButBus (memWrite16_frame h1)) (frame_setCycles ..)
  case storeMovingHL =>
    obtain ⟨s1, h1, rfl⟩ := storeMovingHL_next h
    exact frame_trans (frame_trans (frame_sameButBus (memWrite_frame h1)) (setPair_frame _ .hl _)) (frame_setCycles ..)
  case loadMovingHL =>
    obtain ⟨v, -, rfl⟩ := loadMovingHL_next h
    exact frame_trans (frame_trans (frame_setA (.tail _ (.tail _ (.head _))) ..)
      (frame_setHl (.head _) (.tail _ (.head _)) ..)) (frame_setCycles ..)
  case loadPair | incPair | decPair => exact frame_finish h (setPair_frame ..)
  case loadSpHL => exact frame_finish h (frame_setSp rfl ..)
  case loadHlSp | addHl =>
    exact frame_finish h (frame_trans (frame_setHl (.head _) (.tail _ (.head _)) ..) (frame_setFlags rfl ..))
  case addSp => exact frame_finish h (frame_trans (frame_setSp rfl ..) (frame_setFlags rfl ..))
  case push =>
    obtain ⟨s1, h1, rfl⟩ := pushPair_next h
    exact frame_trans (frame_push16 rfl h1) (frame_setCycles ..)
  case pop => exact popPair_frame h
  case alu => exact frame_finish h (aluApply_frame ..)
  case aluMem =>
    obtain ⟨v, -, rfl⟩ := aluMem_next h
    exact frame_trans (aluApply_frame ..) (frame_setCycles ..)
  case incReg | decReg => exact frame_finish h (frame_trans (frame_setReg (.head _) ..) (frame_setFlags rfl ..))
  case incMem =>
    obtain ⟨v, s1, -, h1, rfl⟩ := incMem_next h
    exact frame_trans (frame_trans (frame_sameButBus (memWrite_frame h1)) (frame_setFlags rfl ..)) (frame_setCycles ..)
  case decMem =>
    obtain ⟨v, s1, -, h1, rfl⟩ := decMem_next h
    exact frame_trans (frame_trans (frame_sameButBus (memWrite_frame h1)) (frame_setFlags rfl ..)) (frame_setCycles ..)
  case scf | ccf => exact frame_finish h (frame_setFlags rfl ..)
  case daa | cpl | rotateA => exact frame_finish h (frame_trans (frame_setA (.head _) ..) (frame_setFlags rfl ..))
  case rotate => exact rotateOperand_frame h
  case testBit => exact testBit_frame h
  case resetBit => exact resetBit_frame h
  case setBit => exact setBit_frame h
  case prefixed => exact cbEntry_frame h
  case jump | jumpHL | jumpRel => exact finish_next h ▸ frame_setPc ..
  case jumpIf => rcases jumpIf_next h with ⟨-, rfl⟩ | ⟨-, rfl⟩ <;> exact frame_setPc ..
  case jumpRelIf => rcases jumpRelIf_next h with ⟨-, rfl⟩ | ⟨-, rfl⟩ <;> exact frame_setPc ..
  case callTo =>
    obtain ⟨s1, h1, rfl⟩ := callTo_next h
    exact frame_trans (frame_push16 rfl h1) (frame_setPc ..)
  case callIf =>
    rcases callIf_next h with ⟨-, s1, h1, rfl⟩ | ⟨-, rfl⟩
    · exact frame_trans (frame_push16 rfl h1) (frame_setPc ..)
    · exact frame_setCycles ..
  case ret | reti => exact returnFrom_frame h
  case retIf =>
    rcases returnIf_next h with ⟨-, x, -, rfl⟩ | ⟨-, rfl⟩
    · exact frame_trans (frame_setSp rfl s (s.sp + 2#16)) (frame_setPc ..)
    · exact frame_setCycles ..
  case nop => exact finish_next h ▸ frame_setCycles ..
  case undefined => cases h
  case stop => exact finish_next h ▸ { stopped := nofun }
  case halt => exact finish_next h ▸ { halted := nofun }
  case di => exact finish_next h ▸ { ime := nofun, arm := nofun }
  case ei => exact finish_next h ▸ { eiDelay := nofun }

/-! ### The frame of an instruction -/

/-- The registers an instruction's operation writes are the destinations of its rule, with SP and F where the rule
writes them. -/
theorem operationOf_writes (i : Instr) :
    (operationOf i).writes.regs = Claims.destRegs i ∧ (operationOf i).writes.sp = Claims.movesSp i ∧
    (operationOf i).writes.f = Claims.writesF i := by
  cases i <;> exact ⟨rfl, rfl, rfl⟩

/-- Only `DI`, `RETI`, `EI`, `HALT` and `STOP` write the control state, each its own part of it (R15 to R18). -/
theorem operationOf_control (i : Instr) :
    (i ≠ .di → i ≠ .reti → (operationOf i).writes.ime = false) ∧
    (i ≠ .ei → (operationOf i).writes.eiDelay = false) ∧
    (i ≠ .halt → (operationOf i).writes.halted = false) ∧
    ((∀ n, i ≠ .stop n) → (operationOf i).writes.stopped = false) ∧
    (i ≠ .di → (operationOf i).writes.arm = false) := by
  cases i
  case di => exact ⟨fun h => absurd rfl h, fun _ => rfl, fun _ => rfl, fun _ => rfl, fun h => absurd rfl h⟩
  case reti => exact ⟨fun _ h => absurd rfl h, fun _ => rfl, fun _ => rfl, fun _ => rfl, fun _ => rfl⟩
  case ei => exact ⟨fun _ _ => rfl, fun h => absurd rfl h, fun _ => rfl, fun _ => rfl, fun _ => rfl⟩
  case halt => exact ⟨fun _ _ => rfl, fun _ => rfl, fun h => absurd rfl h, fun _ => rfl, fun _ => rfl⟩
  case stop n => exact ⟨fun _ _ => rfl, fun _ => rfl, fun _ => rfl, fun h => absurd rfl (h n), fun _ => rfl⟩
  all_goals exact ⟨fun _ _ => rfl, fun _ => rfl, fun _ => rfl, fun _ => rfl, fun _ => rfl⟩

theorem exec_frame {i : Instr} {s t : State} (h : exec i s = .next t) : (operationOf i).writes.Frame s t :=
  run_frame (exec_eq_run i s ▸ h)

/-- Settles O35: the operation's registers are the rule's destinations, and it writes SP where the rule moves it. -/
theorem frameRegisters : Obligations.FrameRegisters := by
  unfold Obligations.FrameRegisters
  intro i s t h
  obtain ⟨hregs, hsp, -⟩ := operationOf_writes i
  have hframe := exec_frame h
  exact ⟨fun r hr => hframe.regs r (hregs ▸ hr), fun hm => hframe.sp (hsp.trans hm)⟩

/-- Settles O36: the operation writes F where the rule does, and its part of the control state; what is outside the CPU
is left by every effect. -/
theorem frameControl : Obligations.FrameControl := by
  unfold Obligations.FrameControl
  intro i s t h
  obtain ⟨-, -, hf⟩ := operationOf_writes i
  obtain ⟨hime, hei, hhalted, hstopped, harm⟩ := operationOf_control i
  obtain ⟨-, -, houtside⟩ := exec_effect h
  have hframe := exec_frame h
  exact ⟨fun hw => hframe.f (hf.trans hw), fun hdi hreti => hframe.ime (hime hdi hreti),
    fun hi => hframe.eiDelay (hei hi), fun hi => hframe.halted (hhalted hi), fun hi => hframe.stopped (hstopped hi),
    fun hi => hframe.arm (harm hi), houtside⟩

end Sys2Proof.Machine
end

section
/-! PROOFS. The canonical form of the sparse lists (spec/20_memory.md R50): at its own key a list in it differs from the
default, and before its first key it does not, so equal contents are equal lists. -/

namespace Sys2Proof.Machine

section
variable {α : Type} [DecidableEq α] {d : Nat → α} {dom : Nat → Bool}

theorem Cells.wf_tail {c : Nat × α} {m : List (Nat × α)} (h : Cells.Wf d dom (c :: m)) : Cells.Wf d dom m :=
  ⟨(List.pairwise_cons.1 h.1).2, fun x hx => h.2 x (.tail _ hx)⟩

omit [DecidableEq α] in
theorem Cells.get_cons_self (k : Nat) (v : α) (m : List (Nat × α)) : Cells.get d ((k, v) :: m) k = v := if_pos rfl

theorem Cells.get_cons_of_lt {c : Nat × α} {m : List (Nat × α)} (h : Cells.Wf d dom (c :: m)) {n : Nat} (hn : n < c.1) :
    Cells.get d (c :: m) n = d n := by
  refine Cells.get_of_lt fun x hx => ?_
  rcases List.mem_cons.1 hx with rfl | hx
  · exact hn
  · exact hn.trans ((List.pairwise_cons.1 h.1).1 x hx)

theorem Cells.get_tail {k : Nat} {v : α} {m : List (Nat × α)} (h : Cells.Wf d dom ((k, v) :: m)) (a : Nat) :
    Cells.get d m a = if a = k then d a else Cells.get d ((k, v) :: m) a := by
  split_ifs with ha
  · exact Cells.get_of_lt fun x hx => ha ▸ (List.pairwise_cons.1 h.1).1 x hx
  · exact (if_neg (Ne.symm ha)).symm

/-- Of two lists that read alike, neither has its first key after the other's. -/
theorem Cells.head_le_of_get_eq {c e : Nat × α} {m n : List (Nat × α)} (hm : Cells.Wf d dom (c :: m))
    (hn : Cells.Wf d dom (e :: n)) (h : ∀ a, Cells.get d (c :: m) a = Cells.get d (e :: n) a) : c.1 ≤ e.1 := by
  by_contra! hlt
  obtain ⟨-, hne⟩ := hn.2 e (.head _)
  exact hne (((h e.1).trans (Cells.get_cons_self e.1 e.2 n)).symm.trans (Cells.get_cons_of_lt hm hlt))

/-- Two lists in canonical form that read alike everywhere are equal. -/
theorem Cells.eq_of_get_eq {m n : List (Nat × α)} (hm : Cells.Wf d dom m) (hn : Cells.Wf d dom n)
    (h : ∀ a, Cells.get d m a = Cells.get d n a) : m = n := by
  induction m generalizing n with
  | nil =>
    cases n with
    | nil => rfl
    | cons e n =>
      obtain ⟨-, hne⟩ := hn.2 e (.head _)
      exact absurd ((h e.1).trans (Cells.get_cons_self e.1 e.2 n)).symm hne
  | cons c m ih =>
    cases n with
    | nil =>
      obtain ⟨-, hne⟩ := hm.2 c (.head _)
      exact absurd ((Cells.get_cons_self c.1 c.2 m).symm.trans (h c.1)) hne
    | cons e n =>
      obtain ⟨j, v⟩ := c
      obtain ⟨k, w⟩ := e
      obtain rfl : j = k :=
        (Cells.head_le_of_get_eq hm hn h).antisymm (Cells.head_le_of_get_eq hn hm fun a => (h a).symm)
      obtain rfl : v = w := (Cells.get_cons_self j v m).symm.trans ((h j).trans (Cells.get_cons_self j w n))
      rw [ih (Cells.wf_tail hm) (Cells.wf_tail hn) fun a => by rw [Cells.get_tail hm, Cells.get_tail hn, h]]

end

/-- Settles O49: memory and the versions are lists in canonical form over their defaults. -/
theorem memoryCanonical : Obligations.MemoryCanonical := by
  unfold Obligations.MemoryCanonical
  exact ⟨fun _ _ => Cells.eq_of_get_eq, fun _ _ => Cells.eq_of_get_eq⟩

end Sys2Proof.Machine
end

section
/-! PROOFS. The decode of the bus, by ranges of addresses (spec/20_memory.md R51 to R53, R60, R61). -/

namespace Sys2Proof.Machine

/-! ### The ranges -/

/-- The address names a stored byte: it is in no range of the cartridge and not in the prohibited one. -/
def Stored (a : Word) : Prop := inCart a = false ∧ regionOf a ≠ .prohibited

theorem inCart_iff_range {a : Word} :
    inCart a = true ↔ a.toNat < 0x8000 ∨ 0xA000 ≤ a.toNat ∧ a.toNat < 0xC000 := by
  simp only [inCart, Bool.or_eq_true, decide_eq_true_eq]

theorem prohibited_iff_range {a : Word} : regionOf a = .prohibited ↔ 0xFEA0 ≤ a.toNat ∧ a.toNat < 0xFF00 := by
  simp only [regionOf]
  split_ifs <;> simp only [false_iff, true_iff] <;> omega

theorem stored_iff_range {a : Word} : Stored a ↔
    0x8000 ≤ a.toNat ∧ a.toNat < 0xA000 ∨ 0xC000 ≤ a.toNat ∧ a.toNat < 0xFEA0 ∨ 0xFF00 ≤ a.toNat := by
  rw [Stored, ← Bool.not_eq_true, inCart_iff_range, ne_eq, prohibited_iff_range]
  omega

theorem isHandle_iff_range {a : Word} :
    isHandle a.toNat = true ↔ 0xFF00 ≤ a.toNat ∧ a.toNat < 0xFF80 ∨ a.toNat = 0xFFFF := by
  simp only [isHandle, Bool.or_eq_true, decide_eq_true_eq]

theorem region_of_isHandle {a : Word} (h : isHandle a.toNat = true) : regionOf a = .io ∨ regionOf a = .ie := by
  rw [isHandle_iff_range] at h
  simp only [regionOf]
  split_ifs <;> simp <;> omega

theorem storageAddr_of_echo {a : Word} (h : 0xE000 ≤ a.toNat ∧ a.toNat < 0xFE00) :
    storageAddr a = a.toNat - 0x2000 := if_pos h

theorem storageAddr_of_not_echo {a : Word} (h : ¬ (0xE000 ≤ a.toNat ∧ a.toNat < 0xFE00)) : storageAddr a = a.toNat :=
  if_neg h

/-! ### The cartridge's tables -/

theorem cartRead_of_reads_nil {s : State} (h : s.cart.reads = []) (a : Word) :
    cartRead s a = some (if a.toNat < 0x8000 then Memory.get s.mem a.toNat else 0xFF#8) := by
  simp only [cartRead, h, List.find?_nil]
  split_ifs <;> rfl

theorem cartRead_of_reads_cons {s : State} {r : CartRead} {rest : List CartRead} (h : s.cart.reads = r :: rest)
    (a : Word) : cartRead s a =
      if (r.state = none ∨ r.state = some s.cart.state) ∧ r.addr = a then r.answer
      else cartRead { s with cart := { s.cart with reads := rest } } a := by
  split_ifs with hr
  · rw [cartRead, h, List.find?_cons_of_pos (by simpa using hr)]
  · rw [cartRead, h, List.find?_cons_of_neg (by simpa using hr)]
    rfl

theorem cartWrite_of_writes_nil {s : State} (h : s.cart.writes = []) (a : Word) (v : Byte) :
    cartWrite s a v = some s := by
  simp only [cartWrite, h, List.find?_nil]

theorem cartWrite_of_writes_cons {s : State} {r : CartWrite} {rest : List CartWrite} (h : s.cart.writes = r :: rest)
    (a : Word) (v : Byte) : cartWrite s a v =
      if (r.state = none ∨ r.state = some s.cart.state) ∧ r.addr = a ∧ (r.value = none ∨ r.value = some v) then
        r.answer.map (fun n => { s with cart := { s.cart with state := n } })
      else (cartWrite { s with cart := { s.cart with writes := rest } } a v).map
        (fun t => { s with cart := { s.cart with state := t.cart.state } }) := by
  split_ifs with hr
  · rw [cartWrite, h, List.find?_cons_of_pos (by simpa [and_assoc] using hr)]
  · rw [cartWrite, h, List.find?_cons_of_neg (by simpa [and_assoc] using hr)]
    simp only [cartWrite]
    split
    · rw [Option.map_map]; rfl
    · rfl

/-! ### Reads -/

theorem memRead_of_prohibited {s : State} {a : Word} (h : regionOf a = .prohibited) : memRead s a = .ok 0xFF#8 := by
  simp only [memRead, h]

theorem memRead_of_stored {s : State} {a : Word} (h : Stored a) :
    memRead s a = .ok (Memory.get s.mem (storageAddr a)) := by
  rw [memRead_of_not_inCart h.1, if_neg h.2]

/-- Echo RAM reads as the byte 0x2000 below (R51). -/
theorem memRead_echo (s : State) {a : Word} (h : 0xE000 ≤ a.toNat ∧ a.toNat < 0xFE00) :
    memRead s a = memRead s (a - 0x2000#16) := by
  have hsub : (a - 0x2000#16).toNat = a.toNat - 0x2000 := BitVec.toNat_sub_of_le (show 0x2000 ≤ a.toNat by omega)
  rw [memRead_of_stored (stored_iff_range.2 (by omega)), memRead_of_stored (stored_iff_range.2 (by omega)),
    storageAddr_of_echo h, storageAddr_of_not_echo (by omega), hsub]

/-- Settles O46: each range is one case of the read decode; a table of rows answers by its head or by its tail. -/
theorem readDecode : Obligations.ReadDecode := by
  unfold Obligations.ReadDecode
  refine ⟨rfl, fun s a => ⟨fun h => memRead_of_inCart (inCart_iff_range.2 h), fun hr => ⟨fun h => ?_, fun h => ?_⟩,
    fun r rest hr _ => cartRead_of_reads_cons hr a, fun h => ?_, fun h => ⟨?_, memRead_echo s h⟩,
    fun h => memRead_of_prohibited (prohibited_iff_range.2 h)⟩⟩
  · rw [memRead_of_inCart (inCart_iff_range.2 (.inl h)), cartRead_of_reads_nil hr, if_pos h]
  · rw [memRead_of_inCart (inCart_iff_range.2 (.inr h)), cartRead_of_reads_nil hr, if_neg (by omega)]
  · rw [memRead_of_stored (stored_iff_range.2 (by omega)), storageAddr_of_not_echo (by omega)]
  · rw [memRead_of_stored (stored_iff_range.2 (by omega)), storageAddr_of_echo h]

/-! ### Writes -/

theorem memWrite_of_inCart {s : State} {a : Word} {v : Byte} (h : inCart a = true) :
    memWrite s a v = match cartWrite s a v with
      | some t => .ok t
      | none => .error (.memoryFault a .write) := by
  unfold memWrite
  rcases (inCart_iff a).1 h with hr | hr <;> cases cartWrite s a v <;> simp only [hr]

theorem memWrite_of_prohibited {s : State} {a : Word} {v : Byte} (h : regionOf a = .prohibited) :
    memWrite s a v = .ok s := by
  simp only [memWrite, h]

theorem memWrite_of_isHandle {s : State} {a : Word} {v : Byte} (h : isHandle a.toNat = true) :
    memWrite s a v = .ok (handleWrite s a v) := by
  rcases region_of_isHandle h with hr | hr <;> simp only [memWrite, hr]

/-- Only a write in a range of the cartridge changes the cartridge (R53). -/
theorem memWrite_cart {s t : State} {a : Word} {v : Byte} (h : memWrite s a v = .ok t) (ha : inCart a = false) :
    t.cart = s.cart := by
  rcases memWrite_cases h with ⟨hin, -⟩ | ⟨-, rfl⟩ | ⟨-, -, rfl⟩ | ⟨-, rfl⟩
  · rw [ha] at hin; cases hin
  · rfl
  · rfl
  · rfl

/-- A write leaves every version but that of the handle at its address (R61, R62). -/
theorem memWrite_version_of_ne {s t : State} {a b : Word} {v : Byte} (h : memWrite s a v = .ok t) (hb : b ≠ a) :
    handleVersion t b = handleVersion s b := by
  rcases memWrite_cases h with ⟨-, cs, rfl⟩ | ⟨-, rfl⟩ | ⟨-, -, rfl⟩ | ⟨-, rfl⟩
  · rfl
  · rfl
  · exact Versions.get_put_of_ne fun he => hb (BitVec.eq_of_toNat_eq he)
  · rfl

/-- A write to a stored byte changes memory and versions alone (R52). -/
theorem memWrite_sameButMem {s t : State} {a : Word} {v : Byte} (h : memWrite s a v = .ok t) (ha : inCart a = false) :
    t = { s with mem := t.mem, versions := t.versions } := by
  have hframe : t = _ := memWrite_frame h
  rwa [memWrite_cart h ha] at hframe

/-- Settles O47: each range is one case of the write decode; what is written is read back through the byte the address
names, and no other byte or version changes. -/
theorem writeDecode : Obligations.WriteDecode := by
  unfold Obligations.WriteDecode
  refine ⟨rfl, fun s a v hs => ⟨fun h => ?_, fun h => memWrite_of_prohibited (prohibited_iff_range.2 h),
    fun h => memWrite_of_isHandle (isHandle_iff_range.2 h), fun h => ?_⟩⟩
  · have hdecode := memWrite_of_inCart (s := s) (v := v) (inCart_iff_range.2 h)
    refine ⟨hdecode, fun t ht => ?_, fun hw => ?_, fun r rest hw => cartWrite_of_writes_cons hw a v⟩
    · obtain ⟨cs, rfl⟩ := cartWrite_some ht
      rfl
    · rw [hdecode, cartWrite_of_writes_nil hw]
  · obtain ⟨hcart, hprohibited⟩ := stored_iff_range.2 h
    obtain ⟨t, ht⟩ := memWrite_ok_of_not_inCart (s := s) hcart v
    have hread : memRead t a = .ok v := memRead_memWrite_self ht hs hcart hprohibited
    refine ⟨t, ht, memWrite_sameButMem ht hcart, hread, fun he => memRead_echo t he ▸ hread, fun he => ?_,
      fun b hb => memRead_congr (fun _ => memWrite_cart ht hcart) (memWrite_get_of_ne ht hb),
      fun b hb => memWrite_version_of_ne ht hb⟩
    have hadd : (a + 0x2000#16).toNat = a.toNat + 0x2000 :=
      BitVec.toNat_add_of_lt (show a.toNat + 0x2000 < 2 ^ 16 by omega)
    rw [memRead_echo t (by omega), BitVec.add_sub_cancel, hread]

/-! ### Handles -/

theorem getLsbD_one_shiftLeft {k j : Nat} (hj : j < 8) : (1#8 <<< k).getLsbD j = decide (j = k) := by
  rw [← BitVec.twoPow_eq, BitVec.getLsbD_twoPow, Bool.eq_iff_iff, Bool.and_eq_true, decide_eq_true_eq,
    decide_eq_true_eq, decide_eq_true_eq]
  omega

/-- The byte of a bit write is the value with that one bit replaced (R63). -/
theorem getLsbD_replaceBit (v : Byte) {k j : Nat} (x : Bool) (hj : j < 8) :
    ((v &&& ~~~(1#8 <<< k)) ||| (BitVec.ofNat 8 x.toNat <<< k)).getLsbD j = if j = k then x else v.getLsbD j := by
  have hx : (BitVec.ofNat 8 x.toNat <<< k).getLsbD j = (x && decide (j = k)) := by
    cases x with
    | false => simp
    | true => simpa using getLsbD_one_shiftLeft hj
  rw [BitVec.getLsbD_or, BitVec.getLsbD_and, BitVec.getLsbD_not, getLsbD_one_shiftLeft hj, hx]
  by_cases h : j = k
  · simp [h]
  · simp [h, hj]

/-- Settles O48: a handle write is read back at its own handle alone, and a bit write is the handle write of the value with
its bit replaced. -/
theorem handleWrites : Obligations.HandleWrites := by
  unfold Obligations.HandleWrites
  intro s a v hs ha
  have hbits : ∀ (k : Nat) (x : Bool) (j : Nat), j < 8 → (handleValue (handleBitWrite s a k x) a).getLsbD j =
      if j = k then x else (handleValue s a).getLsbD j := fun k x j hj => by
    rw [handleBitWrite, handleValue_handleWrite hs, if_pos rfl, getLsbD_replaceBit _ x hj]
  refine ⟨memWrite_of_isHandle ha, fun b => handleValue_handleWrite hs, fun b => handleVersion_handleWrite hs, rfl,
    fun k x _ => ⟨⟨_, rfl, fun j hj => getLsbD_replaceBit _ x hj⟩, hbits k x, ?_⟩⟩
  rw [handleBitWrite, handleVersion_handleWrite hs, if_pos rfl]

/-! ### Words and the stack (R54 to R58) -/

/-- Two addresses in a row name two bytes, across an echo range and across the end of the address space too. -/
theorem storageAddr_add_one_ne (a : Word) : storageAddr (a + 1#16) ≠ storageAddr a := by
  have := a.isLt
  simp only [storageAddr, BitVec.toNat_add, BitVec.toNat_ofNat]
  split_ifs <;> omega

theorem memWrite16_ok_of_stored {s : State} {a : Word} (ha : Stored a) (ha' : Stored (a + 1#16)) (w : Word) :
    ∃ t, memWrite16 s a w = .ok t := by
  obtain ⟨s1, h1⟩ := memWrite_ok_of_not_inCart (s := s) ha.1 (loByte w)
  obtain ⟨t, h2⟩ := memWrite_ok_of_not_inCart (s := s1) ha'.1 (hiByte w)
  exact ⟨t, by simp only [memWrite16, h1, h2]⟩

/-- A word written to two stored bytes is read back, the low byte at the first address (R55, R58). -/
theorem memRead_memWrite16 {s t : State} {a w : Word} (h : memWrite16 s a w = .ok t) (hs : s.memOk) (ha : Stored a)
    (ha' : Stored (a + 1#16)) : memRead t a = .ok (loByte w) ∧ memRead t (a + 1#16) = .ok (hiByte w) := by
  obtain ⟨s1, h1, h2⟩ := memWrite16_ok h
  have hkeep : memRead t a = memRead s1 a :=
    memRead_congr (fun _ => memWrite_cart h2 ha'.1) (memWrite_get_of_ne h2 (storageAddr_add_one_ne a).symm)
  exact ⟨hkeep.trans (memRead_memWrite_self h1 hs ha.1 ha.2),
    memRead_memWrite_self h2 (memWrite_memOk h1 hs) ha'.1 ha'.2⟩

theorem memRead16_of_reads {s : State} {a w : Word} (hlo : memRead s a = .ok (loByte w))
    (hhi : memRead s (a + 1#16) = .ok (hiByte w)) : memRead16 s a = .ok w := by
  simp only [memRead16, hlo, hhi, joinWord_hiByte_loByte]

theorem pop16_of_read {s : State} {w : Word} (h : memRead16 s s.sp = .ok w) :
    pop16 s = .ok (w, { s with sp := s.sp + 2#16 }) := by
  simp only [pop16, h]

theorem push16_sp {s t : State} {w : Word} (h : push16 s w = .ok t) : t.sp = s.sp - 2#16 :=
  congrArg State.sp (push16_frame h)

/-- Settles O50: the word written at the new SP is read back there, and SP goes down and up by 2. -/
theorem pushThenPop : Obligations.PushThenPop := by
  unfold Obligations.PushThenPop
  intro s w hs hstack
  have hnext : s.sp - 2#16 + 1#16 = s.sp - 1#16 := by bv_omega
  have hlo : Stored (s.sp - 2#16) := hstack _ (.inl rfl)
  have hhi : Stored (s.sp - 2#16 + 1#16) := hnext ▸ hstack _ (.inr rfl)
  obtain ⟨t, ht⟩ := memWrite16_ok_of_stored (s := { s with sp := s.sp - 2#16 }) hlo hhi w
  obtain ⟨rlo, rhi⟩ := memRead_memWrite16 ht hs hlo hhi
  have hsp : t.sp = s.sp - 2#16 := push16_sp ht
  refine ⟨t, ht, hsp, rlo, hnext ▸ rhi, ?_⟩
  rw [pop16_of_read (hsp ▸ memRead16_of_reads rlo rhi), hsp, BitVec.sub_add_cancel]

end Sys2Proof.Machine
end

section
/-! PROOFS. What an instruction may change of memory, versions and the cartridge (spec/20_memory.md R52, R61, R62, R64): the
addresses each shared operation of `Laws/Exec.lean` stores to, and the frame around them. -/

namespace Sys2Proof.Machine

/-! ### The frame of stores -/

/-- `t` is `s` in every byte that no address of `l` names, in every version of a handle not in `l`, and in the cartridge if
`l` has no address of its ranges. -/
structure StoreFrame (l : List Word) (s t : State) : Prop where
  byte : ∀ n, (∀ w ∈ l, n ≠ storageAddr w) → Memory.get t.mem n = Memory.get s.mem n := by intros; rfl
  version : ∀ a, a ∉ l → handleVersion t a = handleVersion s a := by intros; rfl
  cart : (∀ w ∈ l, inCart w = false) → t.cart = s.cart := by intros; rfl

theorem memRead_of_storeFrame {l : List Word} {s t : State} (h : StoreFrame l s t) {a : Word}
    (ha : ∀ w ∈ l, storageAddr a ≠ storageAddr w) (hc : inCart a = true → ∀ w ∈ l, inCart w = false) :
    memRead t a = memRead s a :=
  memRead_congr (fun hin => h.cart (hc hin)) (h.byte _ ha)

section
variable {l : List Word} {s t u : State}

theorem storeFrame_trans (h1 : StoreFrame l s t) (h2 : StoreFrame l t u) : StoreFrame l s u where
  byte n h := (h2.byte n h).trans (h1.byte n h)
  version a h := (h2.version a h).trans (h1.version a h)
  cart h := (h2.cart h).trans (h1.cart h)

theorem storeFrame_of_eq (hm : t.mem = s.mem) (hv : t.versions = s.versions) (hc : t.cart = s.cart) :
    StoreFrame l s t where
  byte _ _ := by rw [hm]
  version _ _ := by rw [handleVersion, hv, handleVersion]
  cart _ := hc

theorem storeFrame_setReg (s : State) (r : Reg8) (v : Byte) : StoreFrame l s (s.setReg r v) :=
  storeFrame_of_eq (setReg_mem ..) (setReg_versions ..) (setReg_cart ..)

theorem storeFrame_setPair (s : State) (p : Pair) (w : Word) : StoreFrame l s (s.setPair p w) :=
  storeFrame_of_eq (setPair_mem ..) (setPair_versions ..) (setPair_cart ..)

theorem storeFrame_setStackPair (s : State) (p : StackPair) (w : Word) : StoreFrame l s (s.setStackPair p w) :=
  storeFrame_of_eq (setStackPair_mem ..) (setStackPair_versions ..) (setStackPair_cart ..)

theorem storeFrame_aluApply (op : AluOp) (v : Byte) (s : State) : StoreFrame l s (aluApply op v s) := by
  unfold aluApply
  simp only
  split
  · exact {}
  · exact {}

theorem storeFrame_memWrite {a : Word} {v : Byte} (ha : a ∈ l) (h : memWrite s a v = .ok t) : StoreFrame l s t where
  byte _ hn := memWrite_get_of_ne h (hn a ha)
  version _ hb := memWrite_version_of_ne h fun he => hb (he ▸ ha)
  cart hc := memWrite_cart h (hc a ha)

theorem storeFrame_memWrite16 {a w : Word} (ha : a ∈ l) (ha' : a + 1#16 ∈ l) (h : memWrite16 s a w = .ok t) :
    StoreFrame l s t := by
  obtain ⟨s1, h1, h2⟩ := memWrite16_ok h
  exact storeFrame_trans (storeFrame_memWrite ha h1) (storeFrame_memWrite ha' h2)

end

/-! ### The addresses of an operation -/

/-- The two bytes of a push. -/
def stackTargets (s : State) : List Word := [s.sp - 2#16, s.sp - 2#16 + 1#16]

/-- The byte of an operand that is written. -/
def operandTargets (o : Operand8) (s : State) : List Word := if o = .memHL then [s.hl] else []

/-- The addresses an operation stores to. -/
def Operation.targets (op : Operation) (s : State) : List Word :=
  match op with
  | .storeByte a _ _ => [a.eval s]
  | .storeMovingHL _ | .incMem | .decMem => [s.hl]
  | .storeSp a => [a, a + 1#16]
  | .push _ | .callTo _ _ => stackTargets s
  | .callIf cc _ => if s.cond cc then stackTargets s else []
  | .rotate _ o _ | .resetBit _ o _ | .setBit _ o _ => operandTargets o s
  | .prefixed o => if o.extractLsb' 6 2 = 1#2 then [] else operandTargets (operandOfIndex (o.extractLsb' 0 3)) s
  | _ => []

/-- The operand at index 6 is the byte at HL (R82). -/
theorem operandOfIndex_eq_memHL : ∀ i : BitVec 3, operandOfIndex i = .memHL ↔ i = 6#3 := by decide

theorem prefixed_targets (o : Byte) (s : State) : (Operation.prefixed o).targets s =
    if o.extractLsb' 0 3 = 6#3 ∧ o.extractLsb' 6 2 ≠ 1#2 then [s.hl] else [] := by
  simp only [Operation.targets, operandTargets, operandOfIndex_eq_memHL, ne_eq, ite_and, ite_not]
  split_ifs <;> rfl

/-- The targets of an instruction's operation are those of its rule. -/
theorem operationOf_targets (i : Instr) (s : State) : (operationOf i).targets s = Claims.storeTargets i s := by
  cases i
  case prefixCB o => exact prefixed_targets o s
  all_goals rfl

/-! ### Every operation stays in its frame -/

theorem storeFrame_push16 {s t : State} {w : Word} (h : push16 s w = .ok t) : StoreFrame (stackTargets s) s t :=
  storeFrame_trans (t := { s with sp := s.sp - 2#16 }) {} (storeFrame_memWrite16 (.head _) (.tail _ (.head _)) h)

theorem storeFrame_writeOperand {s t : State} {o : Operand8} {v : Byte} (h : writeOperand s o v = .ok t) :
    StoreFrame (operandTargets o s) s t := by
  rcases writeOperand_frame h with ⟨r, rfl, rfl⟩ | ⟨rfl, hw⟩
  · exact storeFrame_setReg ..
  · exact storeFrame_memWrite (.head _) hw

theorem storeFrame_callTo {a : Word} {m : Nat} {s t : State} (h : callTo a m s = .next t) :
    StoreFrame (stackTargets s) s t := by
  obtain ⟨s1, h1, rfl⟩ := callTo_next h
  exact storeFrame_trans (storeFrame_push16 h1) {}

theorem storeFrame_returnFrom {l : List Word} {b : Bool} {m : Nat} {s t : State} (h : returnFrom s b m = .next t) :
    StoreFrame l s t := by
  obtain ⟨x, -, rfl⟩ := returnFrom_next h
  exact {}

theorem storeFrame_rotateOperand {op : RotOp} {o : Operand8} {m : Nat} {s t : State}
    (h : rotateOperand op o m s = .next t) : StoreFrame (operandTargets o s) s t := by
  obtain ⟨v, s1, -, h1, rfl⟩ := rotateOperand_next h
  exact storeFrame_trans (storeFrame_writeOperand h1) {}

theorem storeFrame_testBit {l : List Word} {b : BitVec 3} {o : Operand8} {m : Nat} {s t : State}
    (h : testBit b o m s = .next t) : StoreFrame l s t := by
  obtain ⟨v, -, rfl⟩ := testBit_next h
  exact {}

theorem storeFrame_resetBit {b : BitVec 3} {o : Operand8} {m : Nat} {s t : State} (h : resetBit b o m s = .next t) :
    StoreFrame (operandTargets o s) s t := by
  obtain ⟨v, s1, -, h1, rfl⟩ := resetBit_next h
  exact storeFrame_trans (storeFrame_writeOperand h1) {}

theorem storeFrame_setBit {b : BitVec 3} {o : Operand8} {m : Nat} {s t : State} (h : setBit b o m s = .next t) :
    StoreFrame (operandTargets o s) s t := by
  obtain ⟨v, s1, -, h1, rfl⟩ := setBit_next h
  exact storeFrame_trans (storeFrame_writeOperand h1) {}

theorem storeFrame_cbEntry {o : Byte} {s t : State} (h : cbEntry o s = .next t) :
    StoreFrame ((Operation.prefixed o).targets s) s t := by
  simp only [cbEntry] at h
  simp only [Operation.targets]
  rcases cbClass_cases (o.extractLsb' 6 2) with hc | hc | hc | hc <;> rw [hc] at h ⊢
  · exact storeFrame_rotateOperand h
  · exact storeFrame_testBit h
  · exact storeFrame_resetBit h
  · exact storeFrame_setBit h

/-- An operation that completes changes no byte and no version but those of its targets. -/
theorem run_storeFrame {op : Operation} {s t : State} (h : op.run s = .next t) : StoreFrame (op.targets s) s t := by
  cases op <;> simp only [Operation.run] at h
  case loadReg | loadImm | incReg | decReg =>
    exact finish_next h ▸ storeFrame_trans (storeFrame_setReg ..) {}
  case loadMem =>
    obtain ⟨v, -, rfl⟩ := loadMem_next h
    exact storeFrame_trans (storeFrame_setReg ..) {}
  case storeByte =>
    obtain ⟨s1, h1, rfl⟩ := storeByte_next h
    exact storeFrame_trans (storeFrame_memWrite (.head _) h1) {}
  case storeSp =>
    obtain ⟨s1, h1, rfl⟩ := storeSp_next h
    exact storeFrame_trans (storeFrame_memWrite16 (.head _) (.tail _ (.head _)) h1) {}
  case storeMovingHL =>
    obtain ⟨s1, h1, rfl⟩ := storeMovingHL_next h
    exact storeFrame_trans (storeFrame_memWrite (.head _) h1) {}
  case loadMovingHL =>
    obtain ⟨v, -, rfl⟩ := loadMovingHL_next h
    exact {}
  case incMem =>
    obtain ⟨v, s1, -, h1, rfl⟩ := incMem_next h
    exact storeFrame_trans (storeFrame_memWrite (.head _) h1) {}
  case decMem =>
    obtain ⟨v, s1, -, h1, rfl⟩ := decMem_next h
    exact storeFrame_trans (storeFrame_memWrite (.head _) h1) {}
  case loadPair | incPair | decPair => exact finish_next h ▸ storeFrame_trans (storeFrame_setPair ..) {}
  case push =>
    obtain ⟨s1, h1, rfl⟩ := pushPair_next h
    exact storeFrame_trans (storeFrame_push16 h1) {}
  case pop =>
    obtain ⟨x, -, rfl⟩ := popPair_next h
    exact storeFrame_trans (t := { s with sp := s.sp + 2#16 }) {} (storeFrame_trans (storeFrame_setStackPair ..) {})
  case alu => exact finish_next h ▸ storeFrame_trans (storeFrame_aluApply ..) {}
  case aluMem =>
    obtain ⟨v, -, rfl⟩ := aluMem_next h
    exact storeFrame_trans (storeFrame_aluApply ..) {}
  case rotate => exact storeFrame_rotateOperand h
  case testBit => exact storeFrame_testBit h
  case resetBit => exact storeFrame_resetBit h
  case setBit => exact storeFrame_setBit h
  case prefixed => exact storeFrame_cbEntry h
  case callTo => exact storeFrame_callTo h
  case callIf cc a =>
    simp only [Operation.targets]
    rcases callIf_next h with ⟨hcc, s1, h1, rfl⟩ | ⟨-, rfl⟩
    · rw [if_pos hcc]
      exact storeFrame_trans (storeFrame_push16 h1) {}
    · exact {}
  case jumpIf => rcases jumpIf_next h with ⟨-, rfl⟩ | ⟨-, rfl⟩ <;> exact {}
  case jumpRelIf => rcases jumpRelIf_next h with ⟨-, rfl⟩ | ⟨-, rfl⟩ <;> exact {}
  case ret | reti => exact storeFrame_returnFrom h
  case retIf => rcases returnIf_next h with ⟨-, x, -, rfl⟩ | ⟨-, rfl⟩ <;> exact {}
  case undefined => cases h
  -- What is left ends at once, with registers or control state changed and no byte written.
  all_goals exact finish_next h ▸ {}

/-- Settles O34: the operation's targets are the rule's, and outside them a read and a version are what they were. -/
theorem frameMemory : Obligations.FrameMemory := by
  unfold Obligations.FrameMemory
  intro i s t h
  have hframe : StoreFrame (Claims.storeTargets i s) s t :=
    operationOf_targets i s ▸ run_storeFrame (exec_eq_run i s ▸ h)
  exact ⟨fun a => memRead_of_storeFrame hframe, hframe.version⟩

end Sys2Proof.Machine
end

section
/-! PROOFS. The decoder and the encoder are inverse to each other (spec/30_encoding.md R80, R83, R84, R88 to R91). -/

namespace Sys2Proof

open Machine

/-! ### What the decoder answers, by the entry of the first byte -/

section
variable {op : Byte}

theorem decode_plain {i : Instr} (h : baseEntry op = .plain i) (rest : List Byte) :
    decode (op :: rest) = .ok (i, rest) := by
  simp only [decode, h]

theorem decode_withByte {f : Byte → Instr} (h : baseEntry op = .withByte f) (n : Byte) (rest : List Byte) :
    decode (op :: n :: rest) = .ok (f n, rest) := by
  simp only [decode, h]

theorem decode_withByte_nil {f : Byte → Instr} (h : baseEntry op = .withByte f) :
    decode [op] = .error (.truncated op) := by
  simp only [decode, h]

theorem decode_withWord {g : Word → Instr} (h : baseEntry op = .withWord g) (lo hi : Byte) (rest : List Byte) :
    decode (op :: lo :: hi :: rest) = .ok (g (joinWord hi lo), rest) := by
  simp only [decode, h]

theorem decode_withWord_short {g : Word → Instr} (h : baseEntry op = .withWord g) {rest : List Byte}
    (hshort : rest.length < 2) : decode (op :: rest) = .error (.truncated op) := by
  rcases rest with _ | ⟨lo, _ | ⟨hi, rest⟩⟩
  · simp only [decode, h]
  · simp only [decode, h]
  · exact absurd hshort (by simp)

/-- A word operand is written low byte first, and read back so (R80, R83). -/
theorem decode_wordOperand {g : Word → Instr} (h : baseEntry op = .withWord g) (w : Word) (rest : List Byte) :
    decode (op :: loByte w :: hiByte w :: rest) = .ok (g w, rest) := by
  rw [decode_withWord h, joinWord_hiByte_loByte]

end

/-! ### The instructions of an entry -/

/-- An entry gives an instruction at some operand. -/
def Entry.Gives : Entry → Instr → Prop
  | .plain j, i => i = j
  | .withByte f, i => ∃ n, i = f n
  | .withWord g, i => ∃ w, i = g w

/-- An instruction of the table is encoded from its opcode byte on (R80). -/
theorem encode_of_gives {op : Byte} {i : Instr} (h : (baseEntry op).Gives i) : ∃ rest, encode i = op :: rest := by
  have hspell := baseEntry_spelledFrom op
  cases he : baseEntry op <;> rw [he] at h hspell
  case plain j =>
    obtain rfl := h
    exact ⟨[], hspell⟩
  case withByte f =>
    obtain ⟨n, rfl⟩ := h
    exact ⟨[n], hspell n⟩
  case withWord g =>
    obtain ⟨w, rfl⟩ := h
    exact ⟨[loByte w, hiByte w], hspell w⟩

/-- The row of 0xCB alone is not well-formed, and its encoding begins with that byte (R84). -/
theorem wf_of_encode_head_ne {i : Instr} {op : Byte} {rest : List Byte} (h : encode i = op :: rest)
    (hop : op ≠ 0xCB#8) : i.wf = true := by
  unfold Instr.wf Instr.isPrefixRow
  split
  · exact absurd (List.cons_eq_cons.1 h).1.symm hop
  · rfl

theorem cbInstr_wf : ∀ o : Byte, (cbInstr o).wf = true := by decide

/-- The table gives well-formed instructions only: under 0xCB stands the CB table, not `prefixCB` (R84). -/
theorem wf_of_gives {op : Byte} {i : Instr} (h : (baseEntry op).Gives i) : i.wf = true := by
  by_cases hop : op = 0xCB#8
  · subst hop
    obtain ⟨o, rfl⟩ := h
    exact cbInstr_wf o
  · obtain ⟨rest, henc⟩ := encode_of_gives h
    exact wf_of_encode_head_ne henc hop

/-! ### Decoding an encoding -/

/-- The table's entry of an instruction's opcode byte gives it back, a word operand from its low byte and its high one
(R80, R83). -/
theorem decode_encode {i : Instr} (hwf : i.wf = true) (rest : List Byte) :
    decode (encode i ++ rest) = .ok (i, rest) := by
  cases i
  case prefixCB o => cases hwf
  case ld_BC_n16 | ld_DE_n16 | ld_HL_n16 | ld_SP_n16 | ld_ma16_SP | ld_ma16_A | ld_A_ma16 | jp_a16 | jp_NZ_a16 |
      jp_Z_a16 | jp_NC_a16 | jp_C_a16 | call_a16 | call_NZ_a16 | call_Z_a16 | call_NC_a16 | call_C_a16 =>
    exact decode_wordOperand rfl ..
  -- An instruction with a byte operand or none: its bytes are the table's, operand included.
  all_goals rfl

/-- Settles O1: every well-formed instruction stands in the table at the first byte of its encoding. -/
theorem decodeEncode : Obligations.DecodeEncode := by
  unfold Obligations.DecodeEncode
  exact fun _ rest hwf => decode_encode hwf rest

theorem encodes_of_encode {i : Instr} {bs : List Byte} (h : encode i = bs) (hwf : i.wf = true) :
    Claims.Encodes bs i := by
  have hd := decode_encode hwf []
  rwa [List.append_nil, h] at hd

/-! ### Encoding what was decoded -/

/-- Everything the decoder can answer (R80, R91): an instruction of the entry of the first byte, whose encoding is the
bytes read; or there was no byte, or fewer than the entry's length. -/
theorem decode_cases (bs : List Byte) :
    (bs = [] ∧ decode bs = .error .noBytes) ∨ ∃ op rest, bs = op :: rest ∧
      ((bs.length < (baseEntry op).length ∧ decode bs = .error (.truncated op)) ∨
        ∃ i tail, decode bs = .ok (i, tail) ∧ (baseEntry op).Gives i ∧ encode i ++ tail = bs) := by
  rcases bs with _ | ⟨op, rest⟩
  · exact .inl ⟨rfl, rfl⟩
  refine .inr ⟨op, rest, rfl, ?_⟩
  have hspell := baseEntry_spelledFrom op
  cases he : baseEntry op <;> rw [he] at hspell
  case plain i => exact .inr ⟨i, rest, decode_plain he rest, rfl, by rw [hspell]; rfl⟩
  case withByte f =>
    rcases rest with _ | ⟨n, rest⟩
    · exact .inl ⟨by simp [Entry.length], decode_withByte_nil he⟩
    · exact .inr ⟨f n, rest, decode_withByte he n rest, ⟨n, rfl⟩, by rw [hspell]; rfl⟩
  case withWord g =>
    rcases rest with _ | ⟨lo, _ | ⟨hi, rest⟩⟩
    · exact .inl ⟨by simp [Entry.length], decode_withWord_short he (by simp)⟩
    · exact .inl ⟨by simp [Entry.length], decode_withWord_short he (by simp)⟩
    · refine .inr ⟨_, rest, decode_withWord he lo hi rest, ⟨_, rfl⟩, ?_⟩
      rw [hspell, loByte_joinWord, hiByte_joinWord]
      rfl

theorem encode_of_encodes {bs : List Byte} {i : Instr} (h : Claims.Encodes bs i) : encode i = bs := by
  obtain ⟨-, hd⟩ | ⟨op, rest, rfl, ⟨-, hd⟩ | ⟨j, tail, hd, -, henc⟩⟩ := decode_cases bs <;> cases h.symm.trans hd
  rw [List.append_nil] at henc
  exact henc

/-- Settles O2: each answer of the decoder is one of the three that `decode_cases` names. -/
theorem encodeDecode : Obligations.EncodeDecode := by
  unfold Obligations.EncodeDecode
  intro bs
  obtain ⟨rfl, h⟩ | ⟨op, rest, rfl, ⟨hlen, h⟩ | ⟨i, tail, h, hgives, henc⟩⟩ := decode_cases bs <;> rw [h]
  · exact ⟨rest, rfl, hlen⟩
  · exact ⟨henc, wf_of_gives hgives⟩

/-- Settles O3: the decoder evaluates on each word. -/
theorem specWords : Obligations.SpecWords := by
  unfold Obligations.SpecWords
  and_intros <;> rfl

end Sys2Proof
end

section
/-! PROOFS. The undefined opcodes are the only instructions without an effect, and none is refused (spec/30_encoding.md
R88, R89, R91, spec/47_system.md R275). -/

namespace Sys2Proof.Machine

open Claims

theorem exec_ne_refused (i : Instr) (s : State) (r : Refusal) : exec i s ≠ .refused r := by
  intro h
  rcases exec_answer i s with hbus | ⟨b, -, hfault⟩
  · rw [h] at hbus
    exact hbus
  · cases h.symm.trans hfault

theorem tick_ne_refused (P : Config.Params) (s : State) (r : Refusal) : tick P s ≠ .refused r := by
  intro h
  cases hst : s.status with
  | faulted f => cases h.symm.trans (tick_of_faulted P hst)
  | running =>
    rcases tick_answer (P := P) hst with hbus | ⟨b, -, -, hfault⟩
    · rw [h] at hbus
      exact hbus
    · cases h.symm.trans hfault

/-- Settles O44: an instruction or a tick that does not go on is a fault. -/
theorem nothingRefused : Obligations.NothingRefused := by
  unfold Obligations.NothingRefused
  exact ⟨exec_ne_refused, tick_ne_refused Config.default⟩

theorem operationOf_undefinedRows : ∀ r ∈ undefinedRows, operationOf r.1 = .undefined r.2 := by
  simp only [undefinedRows, List.forall_mem_cons]
  exact ⟨rfl, rfl, rfl, rfl, rfl, rfl, rfl, rfl, rfl, rfl, rfl, nofun⟩

theorem exec_of_undefined {i : Instr} {b : Byte} (h : operationOf i = .undefined b) (s : State) :
    exec i s = .fault (.unknownOpcode .base b) := by
  rw [exec_eq_run, h]
  rfl

/-- The fault `UnknownOpcode` comes from the one byte of an undefined opcode, so from no CB entry (R91, R300). -/
theorem encode_of_exec_unknownOpcode {i : Instr} {s : State} {k : OpcodeSpace} {b : Byte}
    (h : exec i s = .fault (.unknownOpcode k b)) : encode i = [b] := by
  rcases exec_answer i s with hbus | ⟨c, hop, hfault⟩
  · rw [h] at hbus
    obtain ⟨⟨a, acc, hf, -⟩, -⟩ := hbus
    cases hf
  · cases h.symm.trans hfault
    exact (encode_of_undefined hop).1

/-- Settles O33: an undefined opcode's operation is its fault; and an instruction that ends with that fault has one byte,
where a CB entry has two. -/
theorem undefinedOpcodes : Obligations.UndefinedOpcodes := by
  unfold Obligations.UndefinedOpcodes
  refine ⟨rfl, fun r hr => ?_, fun o i s k b hcb h => ?_⟩
  · have hop := operationOf_undefinedRows r hr
    obtain ⟨henc, hmem⟩ := encode_of_undefined hop
    have hne : r.2 ≠ 0xCB#8 := fun h => absurd (h ▸ hmem) (by decide)
    exact ⟨encodes_of_encode henc (wf_of_encode_head_ne henc hne), exec_of_undefined hop⟩
  · cases (encode_of_encodes hcb).symm.trans (encode_of_exec_unknownOpcode h)

end Sys2Proof.Machine
end

section
/-! PROOFS. The row of 0xCB runs the CB entry that its second byte selects (spec/30_encoding.md R81, R82, R84, R89). -/

namespace Sys2Proof.Machine

open Claims

theorem exec_cbInstr_ofNat {k : Nat} (hk : k < 256) (s : State) :
    exec (cbInstr (BitVec.ofNat 8 k)) s = cbEntry (BitVec.ofNat 8 k) s := by
  interval_cases k <;> rfl

/-- The CB table is the fields of the entry's byte: class, argument and operand (R81, R82, R89). -/
theorem exec_cbInstr (o : Byte) (s : State) : exec (cbInstr o) s = cbEntry o s := by
  simpa only [BitVec.ofNat_toNat, BitVec.setWidth_eq] using exec_cbInstr_ofNat o.isLt s

/-- An operand read, and written back, completes where neither access is refused. -/
theorem updateOperand_completes {s : State} {o : Operand8} (hread : ∃ v, readOperand s o = .ok v)
    (hwrite : ∀ v, ∃ u, writeOperand s o v = .ok u) (m : Nat) (value : Byte → Byte) (after : Byte → State → State) :
    ∃ t, (andThen (readOperand s o) fun v =>
      andThen (writeOperand s o (value v)) fun s1 => finish m (after v s1)) = .next t := by
  obtain ⟨v, hv⟩ := hread
  obtain ⟨u, hu⟩ := hwrite (value v)
  exact ⟨_, by rw [hv]; simp only [andThen, hu]; rfl⟩

theorem testBit_completes {s : State} {o : Operand8} (hread : ∃ v, readOperand s o = .ok v) (b : BitVec 3) (m : Nat) :
    ∃ t, testBit b o m s = .next t := by
  obtain ⟨v, hv⟩ := hread
  exact ⟨_, by rw [testBit, hv]; rfl⟩

/-- A CB entry completes where its operand can be read and written. -/
theorem cbEntry_completes {o : Byte} {s : State}
    (hread : ∃ v, readOperand s (operandOfIndex (o.extractLsb' 0 3)) = .ok v)
    (hwrite : ∀ v, ∃ u, writeOperand s (operandOfIndex (o.extractLsb' 0 3)) v = .ok u) :
    ∃ t, cbEntry o s = .next t := by
  simp only [cbEntry]
  rcases cbClass_cases (o.extractLsb' 6 2) with hc | hc | hc | hc <;> rw [hc]
  · exact updateOperand_completes hread hwrite ..
  · exact testBit_completes hread ..
  · exact updateOperand_completes hread hwrite _ _ fun _ s1 => s1
  · exact updateOperand_completes hread hwrite _ _ fun _ s1 => s1

/-- Settles O5: the row of 0xCB is `cbEntry`, which is the CB table's entry; an operand that is no register is the byte at
HL, at index 6. -/
theorem prefixRunsCbEntry : Obligations.PrefixRunsCbEntry := by
  unfold Obligations.PrefixRunsCbEntry
  intro o s
  refine ⟨cbInstr o, decode_withByte rfl o [], (exec_cbInstr o s).symm, fun hmem => ?_⟩
  change ∃ t, cbEntry o s = .next t
  cases hop : operandOfIndex (o.extractLsb' 0 3) with
  | reg r => exact cbEntry_completes (hop ▸ ⟨s.getReg r, rfl⟩) fun v => hop ▸ ⟨s.setReg r v, rfl⟩
  | memHL =>
    have hidx : o.toNat % 8 = 6 := by
      simpa using congrArg BitVec.toNat ((operandOfIndex_eq_memHL _).1 hop)
    obtain ⟨hread, hwrite⟩ := hmem hidx
    exact cbEntry_completes (hop ▸ hread) (hop ▸ hwrite)

end Sys2Proof.Machine
end

section
/-! PROOFS. The EI delay (spec/30_encoding.md R85, spec/47_system.md R273, R274). -/

namespace Sys2Proof.Machine

/-- Running is fetching, executing, and setting IME if `arm` is still set (R85). -/
theorem runInstr_of_fetch {s s1 : State} {i : Instr}
    (h : fetchInstr { s with arm := s.eiDelay, eiDelay := false } = .ok (i, s1)) :
    runInstr s = retire (exec i s1) := by
  rw [runInstr, h]
  rfl

/-- `DI` cancels the pending `arm`; every other instruction leaves it (R273). -/
theorem exec_arm {i : Instr} {s t : State} (h : exec i s = .next t) : t.arm = (s.arm && decide (i ≠ .di)) := by
  by_cases hi : i = .di
  · subst hi
    rw [finish_next h]
    simp
  · obtain ⟨-, -, -, -, harm⟩ := operationOf_control i
    simpa [hi] using (exec_frame h).arm (harm hi)

/-- `EI` sets the latch; every other instruction leaves it (R274). -/
theorem exec_eiDelay {i : Instr} {s t : State} (h : exec i s = .next t) :
    t.eiDelay = (s.eiDelay || decide (i = .ei)) := by
  by_cases hi : i = .ei
  · subst hi
    rw [finish_next h]
    simp
  · obtain ⟨-, hei, -⟩ := operationOf_control i
    simpa [hi] using (exec_frame h).eiDelay (hei hi)

/-- Settles O40: the latch is moved into `arm` before the fetch, only `DI` clears `arm`, and the end of the instruction
sets IME by it. -/
theorem eiDelay : Obligations.EiDelay := by
  unfold Obligations.EiDelay
  intro s s1 t i hf ht
  obtain ⟨op, -, hs1⟩ := fetchInstr_ok hf
  obtain rfl : s1 = _ := hs1
  have harm : t.arm = (s.eiDelay && decide (i ≠ .di)) := exec_arm ht
  have hei : t.eiDelay = decide (i = .ei) := exec_eiDelay ht
  refine ⟨{ t with ime := t.ime || t.arm, arm := false }, by rw [runInstr_of_fetch hf, ht]; rfl, rfl, hei,
    fun hs => ?_, fun hs => ?_⟩
  · change (t.ime || t.arm) = decide (i ≠ .di)
    rw [harm, hs, Bool.true_and]
    by_cases hi : i = .di
    · subst hi
      rw [finish_next ht]
      rfl
    · simp [hi]
  · change (t.ime || t.arm) = t.ime
    rw [harm, hs, Bool.false_and, Bool.or_false]

end Sys2Proof.Machine
end

section
/-! PROOFS. PC and the cycle count (spec/30_encoding.md R80, R86, R87, spec/70_reset_and_hazards.md R415). -/

namespace Sys2Proof.Machine

open Claims

/-! ### The fetch -/

/-- The first byte of an encoding decides its length, for every instruction (R80). -/
theorem encode_length (i : Instr) : Laws.EncodeSize.Statement i := by
  cases i <;> exact ⟨_, _, rfl, rfl⟩

/-- A fetch moves PC by the length of the encoding of its instruction (R86). -/
theorem fetchInstr_pc {s s1 : State} {i : Instr} (h : fetchInstr s = .ok (i, s1)) :
    s1 = { s with pc := s.pc + BitVec.ofNat 16 (encode i).length } := by
  obtain ⟨op, hop, hs1⟩ := fetchInstr_ok h
  obtain ⟨op', rest, hop', henc⟩ := fetchInstr_encode h
  obtain ⟨op'', rest', henc', hlen⟩ := encode_length i
  cases hop.symm.trans hop'
  obtain ⟨rfl, -⟩ := List.cons_eq_cons.1 (henc.symm.trans henc')
  rw [← hlen, ← hs1]

/-! ### The cycles of an operation -/

/-- The machine cycles of an operation that completes; of a conditional one, when its condition holds (R415). -/
def Operation.cycles : Operation → Nat
  | .loadMem _ _ m | .storeByte _ _ m | .alu _ _ m | .rotate _ _ m | .testBit _ _ m | .resetBit _ _ m
  | .setBit _ _ m | .callTo _ m => m
  | .loadImm _ _ | .storeMovingHL _ | .loadMovingHL _ | .loadSpHL | .aluMem _ | .addHl _ | .incPair _
  | .decPair _ => 2
  | .loadPair _ _ | .loadHlSp _ | .pop _ | .incMem | .decMem | .jumpRel _ | .jumpRelIf _ _ => 3
  | .push _ | .addSp _ | .jump _ | .jumpIf _ _ | .ret | .reti => 4
  | .storeSp _ | .retIf _ => 5
  | .callIf _ _ => 6
  | .prefixed o => if o.extractLsb' 0 3 ≠ 6#3 then 2 else if o.extractLsb' 6 2 = 1#2 then 3 else 4
  | .loadReg _ _ | .incReg _ | .decReg _ | .daa | .cpl | .scf | .ccf | .rotateA _ | .jumpHL | .nop | .stop | .halt
  | .di | .ei | .undefined _ => 1

/-- The condition of a conditional operation, and its machine cycles when it fails. -/
def Operation.untaken : Operation → Option (Cond × Nat)
  | .jumpRelIf cc _ | .retIf cc => some (cc, 2)
  | .jumpIf cc _ | .callIf cc _ => some (cc, 3)
  | _ => none

/-- The operations that set PC under no condition. -/
def Operation.transfers : Operation → Bool
  | .jump _ | .jumpHL | .jumpRel _ | .callTo _ _ | .ret | .reti => true
  | _ => false

/-- An operation's counts are the table's (R86, R87). -/
theorem operationOf_timing (i : Instr) :
    (operationOf i).cycles = cycleCount i ∧ (operationOf i).untaken = notTaken i ∧
      (operationOf i).transfers = isTransfer i := by
  cases i <;> exact ⟨rfl, rfl, rfl⟩

theorem cond_eq_condHolds (s : State) (cc : Cond) : s.cond cc = condHolds cc s := by
  cases cc <;> rfl

/-! ### Operations that leave PC -/

/-- If the answer goes on, then after `m` machine cycles, with PC where it was in `s`. -/
def EndsAfter (s : State) (m : Nat) (r : Answer) : Prop := ∀ t, r = .next t → t.cycles = m ∧ t.pc = s.pc

section
variable {s : State} {m : Nat}

theorem finish_endsAfter {u : State} (h : u.pc = s.pc) : EndsAfter s m (finish m u) := fun _ ht => by
  rw [finish_next ht]
  exact ⟨rfl, h⟩

theorem andThen_endsAfter {α : Type} {x : Except Fault α} {k : α → Answer}
    (h : ∀ v, x = .ok v → EndsAfter s m (k v)) : EndsAfter s m (andThen x k) := fun t ht => by
  obtain ⟨v, hv, hk⟩ := andThen_next ht
  exact h v hv t hk

theorem plainEffect_pc {t u : State} (h : t.plainEffect u) : u.pc = t.pc := by
  obtain ⟨-, -, hpc⟩ := h
  exact hpc

/-- An operand read, and written back. -/
theorem updateOperand_endsAfter {o : Operand8} {value : Byte → Byte} {after : Byte → State → State}
    (h : ∀ v s1, (after v s1).pc = s1.pc) :
    EndsAfter s m (andThen (readOperand s o) fun v =>
      andThen (writeOperand s o (value v)) fun s1 => finish m (after v s1)) :=
  andThen_endsAfter fun v _ => andThen_endsAfter fun s1 hw =>
    finish_endsAfter ((h v s1).trans (plainEffect_pc (writeOperand_plain hw)))

theorem testBit_endsAfter (b : BitVec 3) (o : Operand8) : EndsAfter s m (testBit b o m s) :=
  andThen_endsAfter fun _ _ => finish_endsAfter rfl

/-- A CB entry costs 2 M on a register, and on the byte at HL 3 M for `BIT` and 4 M for the rest (R89). -/
theorem prefixed_cycles (o : Byte) : (Operation.prefixed o).cycles =
    if operandOfIndex (o.extractLsb' 0 3) = .memHL then if o.extractLsb' 6 2 = 1#2 then 3 else 4 else 2 := by
  simp only [Operation.cycles, operandOfIndex_eq_memHL, ne_eq, ite_not]

theorem cbEntry_endsAfter (o : Byte) : EndsAfter s (Operation.prefixed o).cycles (cbEntry o s) := by
  rw [prefixed_cycles]
  simp only [cbEntry, decide_eq_true_eq]
  rcases cbClass_cases (o.extractLsb' 6 2) with hc | hc | hc | hc <;> rw [hc]
  · exact updateOperand_endsAfter fun _ _ => rfl
  · exact testBit_endsAfter _ _
  · exact updateOperand_endsAfter (after := fun _ s1 => s1) fun _ _ => rfl
  · exact updateOperand_endsAfter (after := fun _ s1 => s1) fun _ _ => rfl

/-- An operation that is no transfer leaves PC, and costs what the table says (R87, R415). -/
theorem run_endsAfter (op : Operation) (htr : op.transfers = false) (hun : op.untaken = none) :
    EndsAfter s op.cycles (op.run s) := by
  cases op
  case loadReg | loadImm | incReg | decReg => exact finish_endsAfter (setReg_pc ..)
  case loadPair | incPair | decPair | loadHlSp | addHl => exact finish_endsAfter (setPair_pc ..)
  case loadMem => exact andThen_endsAfter fun _ _ => finish_endsAfter (setReg_pc ..)
  case loadMovingHL => exact andThen_endsAfter fun _ _ => finish_endsAfter (setPair_pc ..)
  case storeByte => exact andThen_endsAfter fun _ hw => finish_endsAfter (plainEffect_pc (memWrite_plain hw))
  case storeMovingHL =>
    exact andThen_endsAfter fun _ hw => finish_endsAfter ((setPair_pc ..).trans (plainEffect_pc (memWrite_plain hw)))
  case storeSp => exact andThen_endsAfter fun _ hw => finish_endsAfter (plainEffect_pc (memWrite16_plain hw))
  case push => exact andThen_endsAfter fun _ hw => finish_endsAfter (plainEffect_pc (push16_plain hw))
  case pop =>
    refine andThen_endsAfter fun r hp => finish_endsAfter ((setStackPair_pc ..).trans ?_)
    obtain ⟨-, hs⟩ := pop16_ok hp
    rw [hs]
  case alu => exact finish_endsAfter (plainEffect_pc (aluApply_plain ..))
  case aluMem => exact andThen_endsAfter fun _ _ => finish_endsAfter (plainEffect_pc (aluApply_plain ..))
  case incMem | decMem => exact updateOperand_endsAfter (o := .memHL) fun _ _ => rfl
  case rotate => exact updateOperand_endsAfter fun _ _ => rfl
  case testBit => exact testBit_endsAfter _ _
  case resetBit | setBit => exact updateOperand_endsAfter (after := fun _ s1 => s1) fun _ _ => rfl
  case prefixed => exact cbEntry_endsAfter _
  case jump | jumpHL | jumpRel | callTo | ret | reti => cases htr
  case jumpIf | jumpRelIf | callIf | retIf => cases hun
  case undefined =>
    intro t ht
    cases ht
  -- What is left ends at once, with flags or control state changed.
  all_goals exact finish_endsAfter rfl

end

/-! ### Control transfers -/

theorem returnFrom_cycles {s t : State} {b : Bool} {m : Nat} (h : returnFrom s b m = .next t) : t.cycles = m := by
  obtain ⟨w, -, rfl⟩ := returnFrom_next h
  rfl

theorem run_cycles_of_transfers {op : Operation} {s t : State} (htr : op.transfers = true)
    (h : op.run s = .next t) : t.cycles = op.cycles := by
  cases op
  case jump | jumpHL | jumpRel => rw [finish_next h]; rfl
  case callTo =>
    obtain ⟨s1, -, rfl⟩ := callTo_next h
    rfl
  case ret | reti => exact returnFrom_cycles h
  all_goals cases htr

/-- A conditional operation costs the table's count if its condition holds; else the lower one, and PC stays (R87). -/
theorem run_conditional {op : Operation} {cc : Cond} {m : Nat} {s t : State} (hun : op.untaken = some (cc, m))
    (h : op.run s = .next t) :
    (s.cond cc = true ∧ t.cycles = op.cycles) ∨ (s.cond cc = false ∧ t.cycles = m ∧ t.pc = s.pc) := by
  cases op
  case jumpIf =>
    cases hun
    rcases jumpIf_next h with ⟨hc, rfl⟩ | ⟨hc, rfl⟩
    exacts [.inl ⟨hc, rfl⟩, .inr ⟨hc, rfl, rfl⟩]
  case jumpRelIf =>
    cases hun
    rcases jumpRelIf_next h with ⟨hc, rfl⟩ | ⟨hc, rfl⟩
    exacts [.inl ⟨hc, rfl⟩, .inr ⟨hc, rfl, rfl⟩]
  case callIf =>
    cases hun
    rcases callIf_next h with ⟨hc, s1, -, rfl⟩ | ⟨hc, rfl⟩
    exacts [.inl ⟨hc, rfl⟩, .inr ⟨hc, rfl, rfl⟩]
  case retIf =>
    cases hun
    rcases returnIf_next h with ⟨hc, w, -, rfl⟩ | ⟨hc, rfl⟩
    exacts [.inl ⟨hc, rfl⟩, .inr ⟨hc, rfl, rfl⟩]
  all_goals cases hun

/-- Settles O37: the first byte decides the length a fetch moves PC by; an instruction's operation is conditional, a
transfer, or one that leaves PC. -/
theorem pcAndCycles : Obligations.PcAndCycles := by
  unfold Obligations.PcAndCycles
  refine ⟨fun s s1 i => fetchInstr_pc, fun i s t h => ?_⟩
  rw [exec_eq_run] at h
  obtain ⟨hcycles, huntaken, htransfers⟩ := operationOf_timing i
  rw [← hcycles, ← huntaken, ← htransfers]
  cases hun : (operationOf i).untaken with
  | some r =>
    obtain ⟨cc, m⟩ := r
    simp only [← cond_eq_condHolds]
    rcases run_conditional hun h with ⟨hc, ht⟩ | ⟨hc, ht⟩
    · rw [if_pos hc]; exact ht
    · rw [if_neg (Bool.eq_false_iff.1 hc)]; exact ht
  | none =>
    cases htr : (operationOf i).transfers with
    | true => exact ⟨run_cycles_of_transfers htr h, nofun⟩
    | false =>
      obtain ⟨hm, hpc⟩ := run_endsAfter _ htr hun t h
      exact ⟨hm, fun _ => hpc⟩

end Sys2Proof.Machine
end

section
/-! PROOFS. The 8-bit loads and stores, and the loads of a word into a pair (spec/40_load8.md R100 to R118,
spec/41_load16.md R120, R122): the rows of each table are one operation of `Laws/Exec.lean`, and one opcode pattern of
the decoder's table. -/

namespace Sys2Proof.Machine

open Claims

/-! ### One instruction, by its entry and by its operation -/

theorem encodes_plain {op : Byte} {i : Instr} (h : baseEntry op = .plain i) : Encodes [op] i := decode_plain h []

theorem encodes_withByte {op : Byte} {f : Byte → Instr} (h : baseEntry op = .withByte f) (n : Byte) :
    Encodes [op, n] (f n) := decode_withByte h n []

theorem encodes_withWord {op : Byte} {g : Word → Instr} (h : baseEntry op = .withWord g) (w : Word) :
    Encodes [op, loByte w, hiByte w] (g w) := decode_wordOperand h w []

theorem exec_of_operation {i : Instr} {op : Operation} (h : operationOf i = op) (s : State) : exec i s = op.run s :=
  h ▸ exec_eq_run i s

/-! ### The tables -/

theorem loadRegRows_entry : ∀ r ∈ loadRegRows,
    baseEntry (opByte (0x40 + 8 * regIndex r.2.1 + regIndex r.2.2)) = .plain r.1 := List.map_inj_left.1 rfl

theorem loadRegRows_operation : ∀ r ∈ loadRegRows, operationOf r.1 = .loadReg r.2.1 r.2.2 := List.map_inj_left.1 rfl

theorem loadImmRows_entry : ∀ r ∈ loadImmRows, baseEntry (opByte (0x06 + 8 * regIndex r.2)) = .withByte r.1 :=
  List.map_inj_left.1 rfl

theorem loadImmRows_operation (n : Byte) : ∀ r ∈ loadImmRows, operationOf (r.1 n) = .loadImm r.2 n :=
  List.map_inj_left.1 rfl

theorem loadPairRows_entry : ∀ r ∈ loadPairRows, baseEntry (opByte (0x01 + 16 * pairIndex r.2)) = .withWord r.1 :=
  List.map_inj_left.1 rfl

theorem loadPairRows_operation (w : Word) : ∀ r ∈ loadPairRows, operationOf (r.1 w) = .loadPair r.2 w :=
  List.map_inj_left.1 rfl

theorem loadFromHLRows_entry : ∀ r ∈ loadFromHLRows, baseEntry (opByte (0x46 + 8 * regIndex r.2)) = .plain r.1 :=
  List.map_inj_left.1 rfl

theorem loadFromHLRows_operation : ∀ r ∈ loadFromHLRows, operationOf r.1 = .loadMem r.2 .hl 2 :=
  List.map_inj_left.1 rfl

theorem storeToHLRows_entry : ∀ r ∈ storeToHLRows, baseEntry (opByte (0x70 + regIndex r.2)) = .plain r.1 :=
  List.map_inj_left.1 rfl

theorem storeToHLRows_operation : ∀ r ∈ storeToHLRows, operationOf r.1 = .storeByte .hl (.reg r.2) 2 :=
  List.map_inj_left.1 rfl

/-! ### Registers and immediates -/

/-- Settles O7: each row is `loadReg` of its registers, at the opcode that their indices form. -/
theorem loadRegister : Obligations.LoadRegister := by
  unfold Obligations.LoadRegister
  exact fun r hr => ⟨encodes_plain (loadRegRows_entry r hr), exec_of_operation (loadRegRows_operation r hr)⟩

/-- Settles O8: each row is the write of its destination with the operand that stands in the bytes. -/
theorem loadImmediate : Obligations.LoadImmediate := by
  unfold Obligations.LoadImmediate
  refine ⟨fun r hr n => ?_, fun r hr w => ?_, encodes_plain rfl, exec_of_operation rfl⟩
  · exact ⟨encodes_withByte (loadImmRows_entry r hr) n, exec_of_operation (loadImmRows_operation n r hr)⟩
  · exact ⟨encodes_withWord (loadPairRows_entry r hr) w, exec_of_operation (loadPairRows_operation w r hr)⟩

/-! ### Reads -/

section
variable {i : Instr} {addr : State → Word} {m : Nat}

/-- A read and what follows it: the read's byte goes on, and the cartridge's refusal is the fault (R51, R53). -/
theorem readsThen_of_andThen {after : State → Byte → State}
    (h : ∀ s, exec i s = andThen (memRead s (addr s)) fun v => finish m (after s v)) : ReadsThen i addr m after := by
  refine fun s => ⟨fun v hv => ?_, fun hc hr => ?_⟩
  · rw [h, hv]; rfl
  · rw [h, memRead_of_inCart hc, hr]; rfl

theorem readsThen_of_loadMem {dst : Reg8} {a : Address} (h : operationOf i = .loadMem dst a m) :
    ReadsThen i (fun s => a.eval s) m (fun s v => s.setReg dst v) :=
  readsThen_of_andThen (exec_of_operation h)

/-- The read is at the old HL, and HL then moves by `step` (R117, R118). -/
theorem readsThen_of_loadMovingHL {step : Word} (h : operationOf i = .loadMovingHL step) :
    ReadsThen i (fun s => s.hl) 2 (fun s v => ({ s with a := v } : State).setPair .hl (s.hl + step)) :=
  readsThen_of_andThen (exec_of_operation h)

/-- Outside the cartridge's ranges the read is answered, so the instruction completes. -/
theorem completes_of_readsThen {after : State → Byte → State} (h : ReadsThen i addr m after) {s : State}
    (hc : inCart (addr s) = false) :
    ∃ v, memRead s (addr s) = .ok v ∧ exec i s = .next { after s v with cycles := m } := by
  have hread := memRead_of_not_inCart (s := s) hc
  obtain ⟨hnext, -⟩ := h s
  exact ⟨_, hread, hnext _ hread⟩

/-! ### Writes -/

variable {value : State → Byte}

/-- A write and what follows it: the written state goes on, and the cartridge's refusal is the fault (R52, R53). -/
theorem writesThen_of_andThen {after : State → State}
    (h : ∀ s, exec i s = andThen (memWrite s (addr s) (value s)) fun u => finish m (after u)) :
    WritesThen i addr value m after := by
  refine fun s => ⟨fun u hu => ?_, fun hc hw => ?_⟩
  · rw [h, hu]; rfl
  · rw [h, memWrite_of_inCart hc, hw]; rfl

theorem writesThen_of_storeByte {a : Address} {v : Source} (h : operationOf i = .storeByte a v m) :
    WritesThen i (fun s => a.eval s) (fun s => v.eval s) m (fun u => u) :=
  writesThen_of_andThen (exec_of_operation h)

/-- A is stored at the old HL, and HL then moves by `step` (R115, R116). -/
theorem writesThen_of_storeMovingHL {step : Word} (h : operationOf i = .storeMovingHL step) :
    WritesThen i (fun s => s.hl) (fun s => s.a) 2 (fun u => u.setPair .hl (u.hl + step)) :=
  writesThen_of_andThen (exec_of_operation h)

/-- Outside the cartridge's ranges the write goes through, so the instruction completes. -/
theorem completes_of_writesThen {after : State → State} (h : WritesThen i addr value m after) {s : State}
    (hc : inCart (addr s) = false) :
    ∃ u, memWrite s (addr s) (value s) = .ok u ∧ exec i s = .next { after u with cycles := m } := by
  obtain ⟨u, hwrite⟩ := memWrite_ok_of_not_inCart (s := s) hc (value s)
  obtain ⟨hnext, -⟩ := h s
  exact ⟨u, hwrite, hnext u hwrite⟩

end

/-! ### Loads from memory and stores to it -/

/-- Settles O9: each form is a read at its address into its register; the last two move HL after it. -/
theorem loadFromMemory : Obligations.LoadFromMemory := by
  unfold Obligations.LoadFromMemory
  refine ⟨fun r hr => ⟨encodes_plain (loadFromHLRows_entry r hr), readsThen_of_loadMem (loadFromHLRows_operation r hr)⟩,
    ⟨encodes_plain rfl, readsThen_of_loadMem (dst := .a) (a := .bc) rfl⟩,
    ⟨encodes_plain rfl, readsThen_of_loadMem (dst := .a) (a := .de) rfl⟩,
    fun n => ⟨encodes_withWord rfl n, readsThen_of_loadMem (dst := .a) (a := .imm n) rfl⟩,
    ⟨encodes_plain rfl, readsThen_of_loadMovingHL rfl⟩, encodes_plain rfl, ?_⟩
  simp only [BitVec.sub_eq_add_neg]
  exact readsThen_of_loadMovingHL rfl

/-- Settles O10: each form is a write of its byte at its address; the last two move HL after it. -/
theorem storeToMemory : Obligations.StoreToMemory := by
  unfold Obligations.StoreToMemory
  refine ⟨fun r hr => ⟨encodes_plain (storeToHLRows_entry r hr), writesThen_of_storeByte (storeToHLRows_operation r hr)⟩,
    fun n => ⟨encodes_withByte rfl n, writesThen_of_storeByte (a := .hl) (v := .imm n) rfl⟩,
    ⟨encodes_plain rfl, writesThen_of_storeByte (a := .bc) (v := .reg .a) rfl⟩,
    ⟨encodes_plain rfl, writesThen_of_storeByte (a := .de) (v := .reg .a) rfl⟩,
    fun n => ⟨encodes_withWord rfl n, writesThen_of_storeByte (a := .imm n) (v := .reg .a) rfl⟩,
    ⟨encodes_plain rfl, writesThen_of_storeMovingHL rfl⟩, encodes_plain rfl, ?_⟩
  simp only [BitVec.sub_eq_add_neg]
  exact writesThen_of_storeMovingHL rfl

/-! ### The high page -/

theorem highPage_toNat (n : Byte) : (highPage n).toNat = 0xFF00 + n.toNat := by
  simp only [highPage, zext16]
  bv_omega

theorem inCart_highPage (n : Byte) : inCart (highPage n) = false := by
  rw [← Bool.not_eq_true, inCart_iff_range, highPage_toNat]
  omega

/-- Settles O11: each form is a read or a write at an address of `highPage`, where no cartridge answers. -/
theorem highPageForms : Obligations.HighPage := by
  unfold Obligations.HighPage
  refine ⟨fun n => ⟨encodes_withByte rfl n, fun s => ?_⟩, fun n => ⟨encodes_withByte rfl n, fun s => ?_⟩,
    ⟨encodes_plain rfl, fun s => ?_⟩, encodes_plain rfl, fun s => ?_⟩
  · exact completes_of_readsThen (readsThen_of_loadMem (dst := .a) (a := .high n) rfl) (inCart_highPage n)
  · exact completes_of_writesThen (writesThen_of_storeByte (a := .high n) (v := .reg .a) rfl) (inCart_highPage n)
  · exact completes_of_readsThen (readsThen_of_loadMem (dst := .a) (a := .highC) rfl) (inCart_highPage s.c)
  · exact completes_of_writesThen (writesThen_of_storeByte (a := .highC) (v := .reg .a) rfl) (inCart_highPage s.c)

end Sys2Proof.Machine
end

section
/-! PROOFS. The 16-bit store, the pushes and the pops (spec/41_load16.md R121, R124 to R126): a word access is two byte
accesses, the low byte's first, and ends at the first of them that is refused (R54 to R58). -/

namespace Sys2Proof.Machine

open Claims

/-! ### Word accesses, by the outcome of each byte -/

section
variable {s s1 : State} {a w : Word} {lo hi : Byte} {f : Fault}

theorem memWrite16_of_low (h : memWrite s a (loByte w) = .ok s1) :
    memWrite16 s a w = memWrite s1 (a + 1#16) (hiByte w) := by
  simp only [memWrite16, h]

theorem memWrite16_of_low_refused (h : memWrite s a (loByte w) = .error f) : memWrite16 s a w = .error f := by
  simp only [memWrite16, h]

theorem pop16_of_bytes (hlo : memRead s s.sp = .ok lo) (hhi : memRead s (s.sp + 1#16) = .ok hi) :
    pop16 s = .ok (joinWord hi lo, { s with sp := s.sp + 2#16 }) :=
  pop16_of_read (by simp only [memRead16, hlo, hhi])

theorem pop16_of_low_refused (h : memRead s s.sp = .error f) : pop16 s = .error f := by
  simp only [pop16, memRead16, h]

theorem pop16_of_high_refused (hlo : memRead s s.sp = .ok lo) (hhi : memRead s (s.sp + 1#16) = .error f) :
    pop16 s = .error f := by
  simp only [pop16, memRead16, hlo, hhi]

end

/-- A word write and what follows it: after both bytes the written state goes on, and the first refused byte is the fault
(R55, R58). -/
theorem andThen_memWrite16 (s : State) (a w : Word) (k : State → Answer) :
    (∀ s1 u, memWrite s a (loByte w) = .ok s1 → memWrite s1 (a + 1#16) (hiByte w) = .ok u →
      andThen (memWrite16 s a w) k = k u) ∧
    (∀ f, memWrite s a (loByte w) = .error f → andThen (memWrite16 s a w) k = .fault f) ∧
    (∀ s1 f, memWrite s a (loByte w) = .ok s1 → memWrite s1 (a + 1#16) (hiByte w) = .error f →
      andThen (memWrite16 s a w) k = .fault f) := by
  refine ⟨fun s1 u hlo hhi => ?_, fun f hlo => ?_, fun s1 f hlo hhi => ?_⟩
  · rw [memWrite16_of_low hlo, hhi]; rfl
  · rw [memWrite16_of_low_refused hlo]; rfl
  · rw [memWrite16_of_low hlo, hhi]; rfl

/-! ### Instructions on the stack -/

section
variable {i : Instr} {m : Nat}

/-- A push is the word write at the moved SP (R56). -/
theorem pushesThen_of_andThen {word : State → Word} {after : State → State}
    (h : ∀ s, exec i s = andThen (push16 s (word s)) fun u => finish m (after u)) : PushesThen i word m after := by
  intro s
  rw [h]
  exact andThen_memWrite16 { s with sp := s.sp - 2#16 } _ _ _

/-- A pop and what follows it: the word and the state with SP moved go on, and a refused byte is the fault (R57, R58). -/
theorem popsThen_of_andThen {after : State → Word → State}
    (h : ∀ s, exec i s = andThen (pop16 s) fun r => finish m (after r.2 r.1)) : PopsThen i m after := by
  refine fun s => ⟨fun lo hi hlo hhi => ?_, fun f hlo => ?_, fun lo f hlo hhi => ?_⟩
  · rw [h, pop16_of_bytes hlo hhi]; rfl
  · rw [h, pop16_of_low_refused hlo]; rfl
  · rw [h, pop16_of_high_refused hlo hhi]; rfl

end

/-! ### The tables -/

theorem pushRows_entry : ∀ r ∈ pushRows, baseEntry (opByte (0xC5 + 16 * stackPairIndex r.2)) = .plain r.1 :=
  List.map_inj_left.1 rfl

theorem pushRows_operation : ∀ r ∈ pushRows, operationOf r.1 = .push r.2 := List.map_inj_left.1 rfl

theorem popRows_entry : ∀ r ∈ popRows, baseEntry (opByte (0xC1 + 16 * stackPairIndex r.2)) = .plain r.1 :=
  List.map_inj_left.1 rfl

theorem popRows_operation : ∀ r ∈ popRows, operationOf r.1 = .pop r.2 := List.map_inj_left.1 rfl

/-! ### The claims -/

/-- Settles O12: `LD (a16),SP` is a word write at its operand, and each push one at SP moved down by 2. -/
theorem storeWords : Obligations.StoreWords := by
  unfold Obligations.StoreWords
  refine ⟨fun n => ⟨encodes_withWord rfl n, fun s => ?_⟩, fun r hr => ⟨encodes_plain (pushRows_entry r hr), ?_⟩⟩
  · rw [exec_of_operation (op := .storeSp n) rfl]
    exact andThen_memWrite16 s n s.sp (finish 5)
  · exact pushesThen_of_andThen (exec_of_operation (pushRows_operation r hr))

/-- Settles O13: each pop writes the word to its pair by `State.setStackPair`, which masks F. -/
theorem popPairs : Obligations.PopPairs := by
  unfold Obligations.PopPairs
  exact fun r hr => ⟨encodes_plain (popRows_entry r hr),
    popsThen_of_andThen (exec_of_operation (popRows_operation r hr))⟩

end Sys2Proof.Machine
end

section
/-! PROOFS. 8-bit arithmetic and logic but for DAA (spec/42_alu8.md R140 to R177, R179 to R181): the model tests a
narrowed result for 0 where the statements test the unbounded one, and the rows of each table are one operation. -/

namespace Sys2Proof.Machine

open Claims

/-! ### Narrowing to 8 bits (R8) -/

theorem ofNat8_eq_zero_iff (n : Nat) : BitVec.ofNat 8 n = 0#8 ↔ n % 256 = 0 := by
  rw [BitVec.toNat_eq]; rfl

theorem ofInt8_eq_zero_iff (x : Int) : BitVec.ofInt 8 x = 0#8 ↔ x % 256 = 0 := by
  rw [BitVec.toNat_eq, BitVec.toNat_ofInt]
  change (x % 256).toNat = 0 ↔ x % 256 = 0
  omega

/-! ### The effect of each operation of `alu(y)` -/

section
variable (s : State) (v : Byte)

theorem aluApply_add : aluApply .add v s = addEffect false s v := by
  simp only [aluApply, aluResult, add8, ofNat8_eq_zero_iff]
  rfl

theorem aluApply_adc : aluApply .adc v s = addEffect true s v := by
  simp only [aluApply, aluResult, adc8, ofNat8_eq_zero_iff]
  rfl

theorem aluApply_sub : aluApply .sub v s = subEffect false false s v := by
  simp only [aluApply, aluResult, sub8, subEffect, ofInt8_eq_zero_iff, Bool.false_eq_true, if_false,
    Nat.cast_zero, Int.sub_zero]
  rfl

theorem aluApply_sbc : aluApply .sbc v s = subEffect true false s v := by
  simp only [aluApply, aluResult, sbc8, ofInt8_eq_zero_iff]
  rfl

theorem aluApply_cp : aluApply .cp v s = subEffect false true s v := by
  simp only [aluApply, aluResult, sub8, subEffect, ofInt8_eq_zero_iff, Bool.false_eq_true, if_false,
    Nat.cast_zero, Int.sub_zero]
  rfl

theorem aluApply_and : aluApply .and v s = logicEffect (fun x y => x &&& y) true s v := by
  simp only [aluApply, aluResult, and8, BitVec.toNat_eq]
  rfl

theorem aluApply_xor : aluApply .xor v s = logicEffect (fun x y => x ^^^ y) false s v := by
  simp only [aluApply, aluResult, xor8, BitVec.toNat_eq]
  rfl

theorem aluApply_or : aluApply .or v s = logicEffect (fun x y => x ||| y) false s v := by
  simp only [aluApply, aluResult, or8, BitVec.toNat_eq]
  rfl

end

/-! ### The three forms of an operation of `alu(y)` -/

/-- The operation of `alu(y)` on an operand of `reg8` (R82). -/
def aluOperation (op : AluOp) : Operand8 → Operation
  | .reg q => .alu op (.reg q) 1
  | .memHL => .aluMem op

/-- The forms of an operation by the decoder's entries, the operations of the rows, and the operation's effect. -/
theorem aluForms_of_effect {y : Nat} {rows : List (Instr × Operand8)} {imm : Byte → Instr} {op : AluOp}
    {effect : State → Byte → State} (heffect : ∀ s v, aluApply op v s = effect s v)
    (hentry : rows.map (fun r => baseEntry (opByte (0x80 + 8 * y + operandIndex r.2))) = rows.map fun r => .plain r.1)
    (hrows : rows.map (fun r => operationOf r.1) = rows.map fun r => aluOperation op r.2)
    (himmEntry : baseEntry (opByte (0xC6 + 8 * y)) = .withByte imm)
    (himm : ∀ n, operationOf (imm n) = .alu op (.imm n) 2) : AluForms y rows imm effect := by
  obtain rfl : effect = fun s v => aluApply op v s := funext₂ fun s v => (heffect s v).symm
  refine ⟨fun r hr => ⟨encodes_plain (List.map_inj_left.1 hentry r hr), ?_⟩,
    fun n => ⟨encodes_withByte himmEntry n, exec_of_operation (himm n)⟩⟩
  have hop := List.map_inj_left.1 hrows r hr
  cases hr2 : r.2 with
  | reg q => exact exec_of_operation (hr2 ▸ hop)
  | memHL => exact readsThen_of_andThen (exec_of_operation (hr2 ▸ hop))

/-- Settles O14: both are the sum with a carry in, 0 for `ADD`. -/
theorem addAndAdc : Obligations.AddAndAdc := by
  unfold Obligations.AddAndAdc
  exact ⟨aluForms_of_effect aluApply_add rfl rfl rfl fun _ => rfl,
    aluForms_of_effect aluApply_adc rfl rfl rfl fun _ => rfl⟩

/-- Settles O15: all three are the difference with a borrow in; `CP` is `SUB` that keeps A. -/
theorem subSbcAndCp : Obligations.SubSbcAndCp := by
  unfold Obligations.SubSbcAndCp
  exact ⟨aluForms_of_effect aluApply_sub rfl rfl rfl fun _ => rfl,
    aluForms_of_effect aluApply_sbc rfl rfl rfl fun _ => rfl,
    aluForms_of_effect aluApply_cp rfl rfl rfl fun _ => rfl⟩

/-- Settles O16: each writes its bits to A, with Z from them and H set by `AND` alone. -/
theorem logicOps : Obligations.LogicOps := by
  unfold Obligations.LogicOps
  exact ⟨aluForms_of_effect aluApply_and rfl rfl rfl fun _ => rfl,
    aluForms_of_effect aluApply_xor rfl rfl rfl fun _ => rfl,
    aluForms_of_effect aluApply_or rfl rfl rfl fun _ => rfl⟩

/-! ### Increments and decrements -/

theorem incRows_entry : ∀ r ∈ incRows, baseEntry (opByte (0x04 + 8 * regIndex r.2)) = .plain r.1 :=
  List.map_inj_left.1 rfl

theorem incRows_operation : ∀ r ∈ incRows, operationOf r.1 = .incReg r.2 := List.map_inj_left.1 rfl

theorem decRows_entry : ∀ r ∈ decRows, baseEntry (opByte (0x05 + 8 * regIndex r.2)) = .plain r.1 :=
  List.map_inj_left.1 rfl

theorem decRows_operation : ∀ r ∈ decRows, operationOf r.1 = .decReg r.2 := List.map_inj_left.1 rfl

/-- Only 0xFF increments to 0, and only a low nibble 0xF carries. -/
theorem inc8_flags (s : State) (v : Byte) :
    flagByte (inc8 v).z (inc8 v).n (inc8 v).h s.flagC = incFlags s v := by
  have hv := v.isLt
  have hz : (v.toNat + 1) % 256 = 0 ↔ v.toNat = 255 := by omega
  have hh : v.toNat % 16 + 1 > 15 ↔ v.toNat % 16 = 15 := by omega
  simp only [inc8, lowNibble, ofNat8_eq_zero_iff, hz, hh]
  rfl

theorem dec8_value (v : Byte) : (dec8 v).value = decByte v := by
  apply BitVec.eq_of_toNat_eq
  simp only [dec8, decByte, BitVec.toNat_ofInt, BitVec.toNat_ofNat]
  omega

/-- Only 0x01 decrements to 0, and only a low nibble 0x0 borrows. -/
theorem dec8_flags (s : State) (v : Byte) :
    flagByte (dec8 v).z (dec8 v).n (dec8 v).h s.flagC = decFlags s v := by
  have hv := v.isLt
  have hz : ((v.toNat : Int) - 1) % 256 = 0 ↔ v.toNat = 1 := by omega
  simp only [dec8, lowNibble, ofInt8_eq_zero_iff, Nat.lt_one_iff, hz]
  rfl

theorem incReg_eq (r : Reg8) (s : State) : incReg r s = .next
    { s.setReg r (incByte (s.getReg r)) with f := incFlags s (s.getReg r), cycles := 1 } := by
  rw [← inc8_flags]
  rfl

theorem decReg_eq (r : Reg8) (s : State) : decReg r s = .next
    { s.setReg r (decByte (s.getReg r)) with f := decFlags s (s.getReg r), cycles := 1 } := by
  rw [← dec8_flags, ← dec8_value]
  rfl

theorem memWrite_f {s u : State} {a : Word} {v : Byte} (h : memWrite s a v = .ok u) : u.f = s.f := by
  rw [memWrite_frame h]

/-- A read at HL, a write of a byte back there and what follows it: the state after the write goes on with F as `flags`
says, and the cartridge's refusal of either access is the fault (R51 to R53). -/
theorem updatesHL_of_andThen {i : Instr} {m : Nat} {value flags : State → Byte → Byte}
    {after : State → Byte → State → State}
    (h : ∀ s, exec i s = andThen (memRead s s.hl) fun v =>
      andThen (memWrite s s.hl (value s v)) fun u => finish m (after s v u))
    (hafter : ∀ s v u, u.f = s.f → after s v u = { u with f := flags s v }) : UpdatesHL i m value flags := by
  refine fun s => ⟨fun v u hv hu => ?_, fun hc hr => ?_, fun v hv hc hw => ?_⟩
  · rw [h, hv]
    simp only [andThen, hu, hafter s v u (memWrite_f hu)]
    rfl
  · rw [h, memRead_of_inCart hc, hr]; rfl
  · rw [h, hv]
    simp only [andThen, memWrite_of_inCart hc, hw]

/-- Settles O17: C is the old F's, because the write back leaves F. -/
theorem incDec8 : Obligations.IncDec8 := by
  unfold Obligations.IncDec8
  refine ⟨fun r hr => ⟨encodes_plain (incRows_entry r hr), fun s => ?_⟩,
    fun r hr => ⟨encodes_plain (decRows_entry r hr), fun s => ?_⟩,
    ⟨encodes_plain rfl, updatesHL_of_andThen (exec_of_operation (op := .incMem) rfl) fun s v u hf => ?_⟩,
    encodes_plain rfl, ?_⟩
  · exact (exec_of_operation (incRows_operation r hr) s).trans (incReg_eq r.2 s)
  · exact (exec_of_operation (decRows_operation r hr) s).trans (decReg_eq r.2 s)
  · simp only [← inc8_flags, State.flagC, ← hf]; rfl
  · simp only [← dec8_value]
    refine updatesHL_of_andThen (exec_of_operation (op := .decMem) rfl) fun s v u hf => ?_
    simp only [← dec8_flags, State.flagC, ← hf]; rfl

/-! ### A complemented, and the carry flag set and complemented -/

/-- Settles O20: each is its operation at its opcode; the complement of A is written there as A xor 0xFF. -/
theorem cplScfCcf : Obligations.CplScfCcf := by
  unfold Obligations.CplScfCcf
  refine ⟨⟨encodes_plain rfl, fun s => ?_⟩, ⟨encodes_plain rfl, exec_of_operation (op := .scf) rfl⟩,
    encodes_plain rfl, exec_of_operation (op := .ccf) rfl⟩
  rw [exec_of_operation (op := .cpl) rfl, ← BitVec.xor_allOnes]
  rfl

end Sys2Proof.Machine
end

section
/-! PROOFS. DAA (spec/42_alu8.md R178): it is its pseudocode, and after `ADD` and `SUB` of packed decimal numbers it
puts back one decimal digit in each nibble. -/

namespace Sys2Proof.Machine

open Claims

/-! ### The pseudocode -/

/-- 0x60 leaves the low nibble, so the model may add it before it tests that nibble. -/
theorem daa8_eq (s : State) :
    daa8 s.a s.flagN s.flagH s.flagC = ⟨(daaEffect s).a, (daaEffect s).flagC⟩ := by
  have hlow (p : Bool) : (s.a.toNat + if p then 0x60 else 0) % 16 = s.a.toNat % 16 := by
    cases p with
    | false => rfl
    | true => exact Nat.add_mul_mod_self_right s.a.toNat 6 16
  change daa8 s.a (s.f.getLsbD 6) (s.f.getLsbD 5) (s.f.getLsbD 4) = _
  simp only [daa8, daaEffect, State.flagC, flagByte_bits, hlow]
  cases s.f.getLsbD 6 with
  | false => simp [← BitVec.ofInt_natCast]
  | true => rfl

/-- F after DAA: Z tells whether A became 0, N is kept and H is 0. -/
theorem daaEffect_f (s : State) : (daaEffect s).f =
    flagByte (decide ((daaEffect s).a = 0#8)) s.flagN false (daaEffect s).flagC := by
  simp only [daaEffect, ofInt8_eq_zero_iff, State.flagC, flagByte_bits]
  rfl

theorem decimalAdjust_eq (s : State) : decimalAdjust s = .next { daaEffect s with cycles := 1 } := by
  simp only [decimalAdjust, daa8_eq]
  change Host.Outcome.next _ = _
  rw [State.setFlags, ← daaEffect_f]
  rfl

/-- Settles O18: DAA is its operation at opcode 0x27, and that operation is the pseudocode. -/
theorem daaPseudocode : Obligations.DaaPseudocode := by
  unfold Obligations.DaaPseudocode
  exact ⟨encodes_plain rfl, fun s => (exec_of_operation (op := .daa) rfl s).trans (decimalAdjust_eq s)⟩

/-! ### Packed decimal numbers -/

/-- A two-digit decimal number with a digit in each nibble; `bcd` is its byte. -/
def packed (n : Nat) : Nat := n / 10 * 16 + n % 10

theorem packed_lt {n : Nat} (h : n < 100) : packed n < 0x9A := by
  unfold packed
  omega

theorem packed_mod {n : Nat} : packed n % 16 = n % 10 := by
  unfold packed
  omega

theorem packed_lt_packed {x y : Nat} : packed x < packed y ↔ x < y := by
  unfold packed
  omega

theorem bcd_toNat {n : Nat} (h : n < 100) : (bcd n).toNat = packed n :=
  Nat.mod_eq_of_lt ((packed_lt h).trans (by decide))

theorem bcd_eq_zero_iff {n : Nat} (h : n < 100) : bcd n = 0#8 ↔ n = 0 := by
  rw [BitVec.toNat_eq, bcd_toNat h]
  change packed n = 0 ↔ n = 0
  unfold packed
  omega

/-- The decimal carry: the sum is carried out of a byte, or its high digit or its low one is no digit. -/
theorem decimal_carry (x y : Nat) :
    255 < packed x + packed y ∨ 0x99 < (packed x + packed y) % 256 ↔ 100 ≤ x + y := by
  calc 255 < packed x + packed y ∨ 0x99 < (packed x + packed y) % 256
    _ ↔ 0x99 < packed x + packed y := by omega
    _ ↔ 100 ≤ x + y := by
      unfold packed
      omega

theorem decimal_half_carry (x y : Nat) :
    15 < packed x % 16 + packed y % 16 ∨ 9 < (packed x + packed y) % 256 % 16 ↔ 10 ≤ x % 10 + y % 10 := by
  unfold packed
  omega

theorem decimal_sum {x y : Nat} (hx : x < 100) (hy : y < 100) :
    ((((packed x + packed y) % 256 : Nat) : Int) + (if 100 ≤ x + y then 0x60 else 0) +
      if 10 ≤ x % 10 + y % 10 then 6 else 0) % 256 = packed ((x + y) % 100) := by
  unfold packed
  split_ifs <;> omega

theorem decimal_difference {x y : Nat} (hx : x < 100) (hy : y < 100) :
    (((packed x : Int) - packed y) % 256 - (if x < y then 0x60 else 0) -
      if x % 10 < y % 10 then 6 else 0) % 256 = packed ((x + 100 - y) % 100) := by
  unfold packed
  split_ifs <;> omega

/-! ### Decimal sums and differences -/

/-- A packed decimal number is in A, with its flags C and Z. -/
def State.IsDecimal (s : State) (n : Nat) (c : Bool) : Prop :=
  s.a = bcd n ∧ s.flagC = c ∧ s.flagZ = decide (n = 0)

theorem daaEffect_isDecimal {s : State} {n : Nat} (hn : n < 100) {c : Bool} (ha : (daaEffect s).a = bcd n)
    (hc : (daaEffect s).flagC = c) : (daaEffect s).IsDecimal n c := by
  refine ⟨ha, hc, ?_⟩
  simp only [State.flagZ, daaEffect_f, flagByte_bits, ha, bcd_eq_zero_iff hn]

/-- A byte is fixed by its value mod 2^8. -/
theorem ofInt_eq_bcd {z : Int} {n : Nat} (h : z % 256 = packed n) : BitVec.ofInt 8 z = bcd n := by
  apply BitVec.eq_of_toNat_eq
  rw [BitVec.toNat_ofInt, bcd, BitVec.toNat_ofNat]
  change (z % 256).toNat = packed n % 256
  omega

/-- DAA after an addition, by the two corrections it makes. -/
theorem daaEffect_of_flagN_false {s : State} (hn : s.flagN = false) {c h : Bool}
    (hc : (s.flagC || decide (s.a.toNat > 0x99)) = c) (hh : (s.flagH || decide (s.a.toNat % 16 > 9)) = h) :
    (daaEffect s).a = BitVec.ofInt 8 ((s.a.toNat : Int) + (if c then 0x60 else 0) + if h then 6 else 0) ∧
      (daaEffect s).flagC = c := by
  subst hc hh
  rw [State.flagN] at hn
  simp only [daaEffect, State.flagC, State.flagH, flagByte_bits, hn, Bool.false_eq_true, if_false, and_true]
  rfl

/-- DAA after a subtraction. -/
theorem daaEffect_of_flagN_true {s : State} (hn : s.flagN = true) :
    (daaEffect s).a =
        BitVec.ofInt 8 ((s.a.toNat : Int) - (if s.flagC then 0x60 else 0) - if s.flagH then 6 else 0) ∧
      (daaEffect s).flagC = s.flagC := by
  rw [State.flagN] at hn
  simp only [daaEffect, State.flagC, State.flagH, flagByte_bits, hn, if_true, and_true]
  rfl

section
variable {s : State} {x y : Nat} (hx : x < 100) (hy : y < 100) (ha : s.a = bcd x)
include hx hy ha

theorem addEffect_bcd : (addEffect false s (bcd y)).a.toNat = (packed x + packed y) % 256 ∧
    (addEffect false s (bcd y)).flagN = false ∧
    (addEffect false s (bcd y)).flagH = decide (15 < packed x % 16 + packed y % 16) ∧
    (addEffect false s (bcd y)).flagC = decide (255 < packed x + packed y) := by
  rw [← bcd_toNat hx, ← bcd_toNat hy, ← ha]
  obtain ⟨-, hflags⟩ := flagByte_bits ..
  exact ⟨rfl, hflags⟩

theorem subEffect_bcd :
    ((subEffect false false s (bcd y)).a.toNat : Int) = ((packed x : Int) - packed y) % 256 ∧
    (subEffect false false s (bcd y)).flagN = true ∧
    (subEffect false false s (bcd y)).flagH = decide (packed x % 16 < packed y % 16) ∧
    (subEffect false false s (bcd y)).flagC = decide (packed x < packed y) := by
  rw [← bcd_toNat hx, ← bcd_toNat hy, ← ha]
  obtain ⟨-, hflags⟩ := flagByte_bits ..
  refine ⟨?_, hflags⟩
  simp only [subEffect, BitVec.toNat_ofInt, Bool.false_eq_true, if_false, Nat.cast_zero, Int.sub_zero]
  exact Int.toNat_of_nonneg (Int.emod_nonneg _ (by decide))

theorem daa_add_isDecimal :
    (daaEffect (addEffect false s (bcd y))).IsDecimal ((x + y) % 100) (decide (x + y ≥ 100)) := by
  obtain ⟨hA, hN, hH, hC⟩ := addEffect_bcd hx hy ha
  obtain ⟨ha', hc'⟩ := daaEffect_of_flagN_false hN (c := decide (x + y ≥ 100)) (h := decide (x % 10 + y % 10 ≥ 10))
    (by rw [hC, hA, ← Bool.decide_or, decide_eq_decide]; exact decimal_carry x y)
    (by rw [hH, hA, ← Bool.decide_or, decide_eq_decide]; exact decimal_half_carry x y)
  refine daaEffect_isDecimal (Nat.mod_lt _ (by decide)) (ha'.trans (ofInt_eq_bcd ?_)) hc'
  simp only [hA, decide_eq_true_eq]
  exact decimal_sum hx hy

theorem daa_sub_isDecimal :
    (daaEffect (subEffect false false s (bcd y))).IsDecimal ((x + 100 - y) % 100) (decide (x < y)) := by
  obtain ⟨hA, hN, hH, hC⟩ := subEffect_bcd hx hy ha
  obtain ⟨ha', hc'⟩ := daaEffect_of_flagN_true hN
  simp only [hA, hH, hC, packed_mod, packed_lt_packed, decide_eq_true_eq] at ha' hc'
  exact daaEffect_isDecimal (Nat.mod_lt _ (by decide)) (ha'.trans (ofInt_eq_bcd (decimal_difference hx hy))) hc'

end

/-- Settles O19: DAA's corrections undo what the binary sum or difference of packed numbers misses in each digit. -/
theorem daaIsDecimal : Obligations.DaaIsDecimal := by
  unfold Obligations.DaaIsDecimal
  intro s x y hx hy ha hb
  obtain ⟨⟨hadd, -⟩, -⟩ := addAndAdc
  obtain ⟨⟨hsub, -⟩, -⟩ := subSbcAndCp
  obtain ⟨-, hadd⟩ := hadd (.add_A_B, .reg .b) (.head _)
  obtain ⟨-, hsub⟩ := hsub (.sub_B, .reg .b) (.head _)
  obtain ⟨-, hdaa⟩ := daaPseudocode
  have hb' : s.getReg .b = bcd y := hb
  have hzero : (x + 100 - y) % 100 = 0 ↔ x = y := by omega
  refine ⟨⟨_, _, hadd s, hdaa _, ?_⟩, _, _, hsub s, hdaa _, ?_⟩
  · rw [hb']
    exact daa_add_isDecimal hx hy ha
  · rw [hb', ← decide_eq_decide.2 hzero]
    exact daa_sub_isDecimal hx hy ha

end Sys2Proof.Machine
end

section
/-! PROOFS. 16-bit arithmetic and the signed displacement of SP (spec/43_alu16.md R190 to R195, spec/41_load16.md R123): the
rows of each table are one operation, and the model's words are the narrowed sums of the statements. -/

namespace Sys2Proof.Machine

open Claims

/-! ### The tables -/

theorem addHlRows_entry : ∀ r ∈ addHlRows, baseEntry (opByte (0x09 + 16 * pairIndex r.2)) = .plain r.1 :=
  List.map_inj_left.1 rfl

theorem addHlRows_operation : ∀ r ∈ addHlRows, operationOf r.1 = .addHl r.2 := List.map_inj_left.1 rfl

theorem incPairRows_entry : ∀ r ∈ incPairRows, baseEntry (opByte (0x03 + 16 * pairIndex r.2)) = .plain r.1 :=
  List.map_inj_left.1 rfl

theorem incPairRows_operation : ∀ r ∈ incPairRows, operationOf r.1 = .incPair r.2 := List.map_inj_left.1 rfl

theorem decPairRows_entry : ∀ r ∈ decPairRows, baseEntry (opByte (0x0B + 16 * pairIndex r.2)) = .plain r.1 :=
  List.map_inj_left.1 rfl

theorem decPairRows_operation : ∀ r ∈ decPairRows, operationOf r.1 = .decPair r.2 := List.map_inj_left.1 rfl

/-! ### Words as narrowed sums (R8) -/

theorem add_one_eq_ofNat (w : Word) : w + 1#16 = BitVec.ofNat 16 (w.toNat + 1) := BitVec.add_def ..

theorem sub_one_eq_ofNat (w : Word) : w - 1#16 = BitVec.ofNat 16 (w.toNat + 65535) := by
  rw [Nat.add_comm]
  exact BitVec.sub_def ..

theorem spadd_value (sp : Word) (e : Byte) : (spadd sp e).value = spPlus sp e := by
  rw [spPlus, BitVec.ofInt_add, BitVec.ofInt_natCast, BitVec.ofNat_toNat, BitVec.setWidth_eq]
  rfl

/-! ### The claims -/

/-- Settles O21: each row is the operation of its pair, at the opcode that the pair's index forms. -/
theorem arithmetic16 : Obligations.Arithmetic16 := by
  unfold Obligations.Arithmetic16
  refine ⟨fun r hr => ⟨encodes_plain (addHlRows_entry r hr), exec_of_operation (addHlRows_operation r hr)⟩,
    fun r hr => ⟨encodes_plain (incPairRows_entry r hr), fun s => ?_⟩,
    fun r hr => ⟨encodes_plain (decPairRows_entry r hr), fun s => ?_⟩⟩
  · rw [← add_one_eq_ofNat]
    exact exec_of_operation (incPairRows_operation r hr) s
  · rw [← sub_one_eq_ofNat]
    exact exec_of_operation (decPairRows_operation r hr) s

/-- Settles O22: both write the word and the flags of `spadd`, `ADD SP,e8` to SP and `LD HL,SP+e8` to HL. -/
theorem spPlusDisplacement : Obligations.SpPlusDisplacement := by
  unfold Obligations.SpPlusDisplacement
  simp only [← spadd_value]
  exact ⟨fun e => ⟨encodes_withByte rfl e, exec_of_operation (op := .addSp e) rfl⟩,
    fun e => ⟨encodes_withByte rfl e, exec_of_operation (op := .loadHlSp e) rfl⟩⟩

end Sys2Proof.Machine
end

section
/-! PROOFS. Rotates, shifts and swap (spec/44_rotate_shift.md R200 to R229): the model builds a result from shifted
bytes where the statements form it on unbounded numbers, and the rows of each table are one operation. -/

namespace Sys2Proof.Machine

open Claims

/-! ### The values and carries (R200 to R207) -/

/-- Bytes with no bit in common, one above bit `k` and one below it, join by a sum. -/
theorem or_eq_ofNat_add {x y : Byte} {q n : Nat} (k : Nat) (hx : x.toNat = 2 ^ k * q) (hy : y.toNat = n)
    (hn : n < 2 ^ k) : x ||| y = BitVec.ofNat 8 (2 ^ k * q + n) := by
  rw [Nat.two_pow_add_eq_or_of_lt hn, ← hx, ← hy, ← BitVec.toNat_or, BitVec.ofNat_toNat, BitVec.setWidth_eq]

theorem toNat_shiftLeft_byte (v : Byte) (k : Nat) (hk : k ≤ 8) :
    (v <<< k).toNat = 2 ^ k * (v.toNat % 2 ^ (8 - k)) := by
  rw [BitVec.toNat_shiftLeft, Nat.shiftLeft_eq, Nat.mul_comm, ← Nat.mul_mod_mul_left, ← Nat.pow_add,
    Nat.add_sub_cancel' hk]

theorem toNat_shiftRight_byte (v : Byte) (k : Nat) : (v >>> k).toNat = v.toNat / 2 ^ k := by
  rw [BitVec.toNat_ushiftRight, Nat.shiftRight_eq_div_pow]

theorem rl_value (v : Byte) (c : Bool) : (rl v c).value = BitVec.ofNat 8 (2 * v.toNat + c.toNat) := by
  have hc : c.toNat < 2 := c.toNat_lt
  rw [rl, or_eq_ofNat_add 1 (toNat_shiftLeft_byte v 1 (by decide)) (BitVec.toNat_ofNat ..) (by omega)]
  apply BitVec.eq_of_toNat_eq
  simp only [BitVec.toNat_ofNat]
  omega

theorem rr_value (v : Byte) (c : Bool) : (rr v c).value = BitVec.ofNat 8 (v.toNat / 2 + 128 * c.toNat) := by
  have hv := v.isLt
  rw [rr, BitVec.or_comm, or_eq_ofNat_add 7 (toNat_shiftLeft_byte _ 7 (by decide)) (toNat_shiftRight_byte v 1)
    (by omega), Nat.add_comm]
  cases c <;> rfl

theorem sla_value (v : Byte) : (sla v).value = BitVec.ofNat 8 (2 * v.toNat) := by
  rw [sla, Nat.mul_comm]
  exact BitVec.shiftLeft_eq_mul_twoPow ..

/-- Bit 7 stays and every other bit is the one above it, as in the arithmetic shift. -/
theorem sra_value (v : Byte) : (sra v).value = v.sshiftRight 1 := by
  ext i hi
  interval_cases i <;> simp [sra, BitVec.getElem_sshiftRight, BitVec.msb_eq_getLsbD_last]

theorem swap_value (v : Byte) : (swap v).value = BitVec.ofNat 8 (v.toNat % 16 * 16 + v.toNat / 16) := by
  have hv := v.isLt
  rw [swap, or_eq_ofNat_add 4 (toNat_shiftLeft_byte v 4 (by decide)) (toNat_shiftRight_byte v 4) (by omega),
    Nat.mul_comm]
  rfl

theorem srl_value (v : Byte) : (srl v).value = BitVec.ofNat 8 (v.toNat / 2) := by
  have hv := v.isLt
  apply BitVec.eq_of_toNat_eq
  simp only [srl, toNat_shiftRight_byte, BitVec.toNat_ofNat]
  omega

theorem getLsbD_seven (v : Byte) : v.getLsbD 7 = decide (v.toNat ≥ 128) := BitVec.getLsbD_last v

theorem getLsbD_zero (v : Byte) : v.getLsbD 0 = decide (v.toNat % 2 = 1) := Nat.testBit_zero v.toNat

/-- The statements' rotates are the model's: the value and the bit moved out. The library's `rotateLeft` and
`rotateRight` are the model's two shifts by definition. -/
theorem rotSpec_eq (op : RotOp) (v : Byte) (c : Bool) :
    rotSpec op v c = ((rotResult op v c).value, (rotResult op v c).c) := by
  cases op with
  | rlc => rfl
  | rrc => rfl
  | rl => exact Prod.ext (rl_value v c).symm (getLsbD_seven v).symm
  | rr => exact Prod.ext (rr_value v c).symm (getLsbD_zero v).symm
  | sla => exact Prod.ext (sla_value v).symm (getLsbD_seven v).symm
  | sra => exact Prod.ext (sra_value v).symm (getLsbD_zero v).symm
  | swap => exact Prod.ext (swap_value v).symm rfl
  | srl => exact Prod.ext (srl_value v).symm (getLsbD_zero v).symm

/-- F after a CB rotate: Z from the value, N and H 0, C the bit moved out. -/
theorem rotFlags_mk (v : Byte) (c : Bool) : rotFlags (v, c) = flagByte (decide (v = 0#8)) false false c := by
  simp only [rotFlags, BitVec.toNat_eq]
  rfl

/-! ### The tables -/

theorem rotateARows_entry : ∀ r ∈ rotateARows, baseEntry (opByte (0x07 + 8 * rotIndex r.2)) = .plain r.1 :=
  List.map_inj_left.1 rfl

theorem rotateARows_operation : ∀ r ∈ rotateARows, operationOf r.1 = .rotateA r.2 := List.map_inj_left.1 rfl

theorem rotateRegRows_cbInstr : ∀ r ∈ rotateRegRows,
    cbInstr (opByte (8 * rotIndex r.2.1 + regIndex r.2.2)) = r.1 := List.map_inj_left.1 rfl

theorem rotateRegRows_operation : ∀ r ∈ rotateRegRows, operationOf r.1 = .rotate r.2.1 (.reg r.2.2) 2 :=
  List.map_inj_left.1 rfl

theorem rotateMemRows_cbInstr : ∀ r ∈ rotateMemRows, cbInstr (opByte (8 * rotIndex r.2 + 6)) = r.1 :=
  List.map_inj_left.1 rfl

theorem rotateMemRows_operation : ∀ r ∈ rotateMemRows, operationOf r.1 = .rotate r.2 .memHL 4 :=
  List.map_inj_left.1 rfl

/-- The two bytes of an entry of the CB table (R84, R89). -/
theorem encodes_cb {o : Byte} {i : Instr} (h : cbInstr o = i) : Encodes [0xCB#8, o] i := h ▸ encodes_withByte rfl o

/-! ### The claims -/

/-- Settles O23: each row is the rotate of A by its operation, at the opcode that the operation's index forms. -/
theorem rotateAccumulator : Obligations.RotateAccumulator := by
  unfold Obligations.RotateAccumulator
  simp only [rotSpec_eq]
  exact fun r hr => ⟨encodes_plain (rotateARows_entry r hr), exec_of_operation (rotateARows_operation r hr)⟩

/-- Settles O24: each row is the rotate of its register, whose read and write back refuse nothing. -/
theorem rotateRegister : Obligations.RotateRegister := by
  unfold Obligations.RotateRegister
  simp only [rotSpec_eq, rotFlags_mk]
  exact fun r hr => ⟨encodes_cb (rotateRegRows_cbInstr r hr), exec_of_operation (rotateRegRows_operation r hr)⟩

/-- Settles O25: each row reads at HL, rotates and writes back there; the flags come after the write. -/
theorem rotateMemory : Obligations.RotateMemory := by
  unfold Obligations.RotateMemory
  simp only [rotSpec_eq, rotFlags_mk]
  exact fun r hr => ⟨encodes_cb (rotateMemRows_cbInstr r hr),
    updatesHL_of_andThen (exec_of_operation (rotateMemRows_operation r hr)) fun _ _ _ _ => rfl⟩

end Sys2Proof.Machine
end

section
/-! PROOFS. Single bits (spec/45_bit.md R240 to R245): the model masks a bit where the statements add or take away its
power of two, and the rows of each table are one operation at the bit and operand of their opcode. -/

namespace Sys2Proof.Machine

open Claims

/-! ### One bit cleared and set -/

theorem bitMask_eq_ofNat (b : BitVec 3) : bitMask b = BitVec.ofNat 8 (2 ^ b.toNat) := by
  decide +revert

theorem and_bitMask (v : Byte) (b : BitVec 3) : v &&& bitMask b = if v.getLsbD b.toNat then bitMask b else 0#8 :=
  BitVec.and_twoPow v b.toNat

/-- The bits of a byte outside a mask and those inside: no bit is in both, so their sum has no carry. -/
theorem and_not_add_and (v m : Byte) : (v &&& ~~~m) + (v &&& m) = v := by
  have hdisjoint : (v &&& ~~~m) &&& (v &&& m) = 0#8 := by
    ext i hi
    cases hm : m[i] <;> simp [hm]
  rw [BitVec.add_eq_or_of_and_eq_zero _ _ hdisjoint, ← BitVec.and_or_distrib_left, BitVec.or_comm,
    BitVec.or_not_self, BitVec.and_allOnes]

theorem or_and_eq_self (v m : Byte) : v ||| v &&& m = v := by
  ext i hi
  rw [BitVec.getElem_or, BitVec.getElem_and]
  exact sup_inf_self

theorem clearBit_eq (b : BitVec 3) (v : Byte) : clearBit b.toNat v = v &&& ~~~(bitMask b) := by
  rw [eq_sub_of_add_eq (and_not_add_and v (bitMask b)), and_bitMask, clearBit, bitMask_eq_ofNat]
  split
  · rfl
  · exact (BitVec.sub_zero v).symm

/-- A set bit is in the byte already; a clear one is in no bit of it, so adding it has no carry. -/
theorem raiseBit_eq (b : BitVec 3) (v : Byte) : raiseBit b.toNat v = v ||| bitMask b := by
  have hand := and_bitMask v b
  rw [raiseBit, ← bitMask_eq_ofNat]
  split
  next hset =>
    rw [if_pos hset] at hand
    rw [← hand, or_and_eq_self]
  next hclear =>
    rw [if_neg hclear] at hand
    exact BitVec.add_eq_or_of_and_eq_zero v _ hand

/-! ### The forms of a bit operation -/

/-- A table over the registers, from the CB entries of its rows, their operations and the operation's effect. -/
theorem bitRegForms {base : Nat} {rows : List (Instr × Nat × Reg8)} {op : BitVec 3 → Operand8 → Nat → Operation}
    (effect : State → Nat → Reg8 → State)
    (heffect : ∀ b q s, (op b (.reg q) 2).run s = .next { effect s b.toNat q with cycles := 2 })
    (hentry : rows.map (fun r => cbInstr (opByte (base + 8 * r.2.1 + regIndex r.2.2))) = rows.map fun r => r.1)
    (hbit : rows.map (fun r => (BitVec.ofNat 3 r.2.1).toNat) = rows.map fun r => r.2.1)
    (hrows : rows.map (fun r => operationOf r.1) = rows.map fun r => op (BitVec.ofNat 3 r.2.1) (.reg r.2.2) 2) :
    ∀ r ∈ rows, Encodes [0xCB#8, opByte (base + 8 * r.2.1 + regIndex r.2.2)] r.1 ∧
      ∀ s, exec r.1 s = .next { effect s r.2.1 r.2.2 with cycles := 2 } := by
  refine fun r hr => ⟨encodes_cb (List.map_inj_left.1 hentry r hr), fun s => ?_⟩
  rw [exec_of_operation (List.map_inj_left.1 hrows r hr), heffect, List.map_inj_left.1 hbit r hr]

/-- A table of the byte at HL, from the CB entries of its rows, their operations and what the operation does there. -/
theorem bitMemForms {base : Nat} {rows : List (Instr × Nat)} {op : BitVec 3 → Operation} (P : Instr → Nat → Prop)
    (hP : ∀ i b, operationOf i = op b → P i b.toNat)
    (hentry : rows.map (fun r => cbInstr (opByte (base + 8 * r.2))) = rows.map fun r => r.1)
    (hbit : rows.map (fun r => (BitVec.ofNat 3 r.2).toNat) = rows.map fun r => r.2)
    (hrows : rows.map (fun r => operationOf r.1) = rows.map fun r => op (BitVec.ofNat 3 r.2)) :
    ∀ r ∈ rows, Encodes [0xCB#8, opByte (base + 8 * r.2)] r.1 ∧ P r.1 r.2 := by
  refine fun r hr => ⟨encodes_cb (List.map_inj_left.1 hentry r hr), ?_⟩
  exact List.map_inj_left.1 hbit r hr ▸ hP r.1 _ (List.map_inj_left.1 hrows r hr)

theorem readsThen_of_testBit {i : Instr} {b : BitVec 3} {m : Nat} (h : operationOf i = .testBit b .memHL m) :
    ReadsThen i (fun s => s.hl) m (fun s v => { s with f := bitFlags s b.toNat v }) :=
  readsThen_of_andThen (exec_of_operation h)

/-- A byte written back at HL with nothing after it: the write back leaves F. -/
theorem updatesHL_of_writeBack {i : Instr} {m : Nat} {value : Byte → Byte}
    (h : ∀ s, exec i s = andThen (memRead s s.hl) fun v =>
      andThen (memWrite s s.hl (value v)) fun u => finish m u) :
    UpdatesHL i m (fun _ v => value v) (fun s _ => s.f) :=
  updatesHL_of_andThen (after := fun _ _ u => u) h fun _ _ _ hf => hf ▸ rfl

theorem updatesHL_of_resetBit {i : Instr} {b : BitVec 3} {m : Nat} (h : operationOf i = .resetBit b .memHL m) :
    UpdatesHL i m (fun _ v => clearBit b.toNat v) (fun s _ => s.f) := by
  simp only [clearBit_eq]
  exact updatesHL_of_writeBack (exec_of_operation h)

theorem updatesHL_of_setBit {i : Instr} {b : BitVec 3} {m : Nat} (h : operationOf i = .setBit b .memHL m) :
    UpdatesHL i m (fun _ v => raiseBit b.toNat v) (fun s _ => s.f) := by
  simp only [raiseBit_eq]
  exact updatesHL_of_writeBack (exec_of_operation h)

theorem testBit_reg (b : BitVec 3) (q : Reg8) (m : Nat) (s : State) :
    testBit b (.reg q) m s = .next { s with f := bitFlags s b.toNat (s.getReg q), cycles := m } := rfl

theorem resetBit_reg (b : BitVec 3) (q : Reg8) (m : Nat) (s : State) :
    resetBit b (.reg q) m s = .next { s.setReg q (clearBit b.toNat (s.getReg q)) with cycles := m } := by
  rw [clearBit_eq]
  rfl

theorem setBit_reg (b : BitVec 3) (q : Reg8) (m : Nat) (s : State) :
    setBit b (.reg q) m s = .next { s.setReg q (raiseBit b.toNat (s.getReg q)) with cycles := m } := by
  rw [raiseBit_eq]
  rfl

/-! ### The claims -/

/-- Settles O26: the operand is read and F formed from its bit; a refused read of the byte at HL is the fault. -/
theorem bitTest : Obligations.BitTest := by
  unfold Obligations.BitTest
  exact ⟨bitRegForms (fun s b q => { s with f := bitFlags s b (s.getReg q) }) (op := .testBit)
      (fun b q => testBit_reg b q 2) rfl rfl rfl,
    bitMemForms (op := (.testBit · .memHL 3))
      (fun i b => ReadsThen i (fun s => s.hl) 3 fun s v => { s with f := bitFlags s b v })
      (fun _ _ => readsThen_of_testBit) rfl rfl rfl⟩

/-- Settles O27: taking away the bit's power of two is masking the bit out, and the write back leaves F. -/
theorem bitReset : Obligations.BitReset := by
  unfold Obligations.BitReset
  exact ⟨bitRegForms (fun s b q => s.setReg q (clearBit b (s.getReg q))) (op := .resetBit)
      (fun b q => resetBit_reg b q 2) rfl rfl rfl,
    bitMemForms (op := (.resetBit · .memHL 4)) (fun i b => UpdatesHL i 4 (fun _ v => clearBit b v) fun s _ => s.f)
      (fun _ _ => updatesHL_of_resetBit) rfl rfl rfl⟩

/-- Settles O28: adding the bit's power of two is joining the bit, and the write back leaves F. -/
theorem bitSet : Obligations.BitSet := by
  unfold Obligations.BitSet
  exact ⟨bitRegForms (fun s b q => s.setReg q (raiseBit b (s.getReg q))) (op := .setBit)
      (fun b q => setBit_reg b q 2) rfl rfl rfl,
    bitMemForms (op := (.setBit · .memHL 4)) (fun i b => UpdatesHL i 4 (fun _ v => raiseBit b v) fun s _ => s.f)
      (fun _ _ => updatesHL_of_setBit) rfl rfl rfl⟩

end Sys2Proof.Machine
end

section
/-! PROOFS. Jumps, calls, returns and restarts (spec/46_control.md R250 to R261): the rows of each table are one operation
and the cells of the decoder's table at the opcodes their indices form; a conditional one tests the flag the statements
name. -/

namespace Sys2Proof.Machine

open Claims

/-! ### The tables -/

theorem jpRows_entry : ∀ r ∈ jpRows, baseEntry (opByte (0xC2 + 8 * condIndex r.2)) = .withWord r.1 :=
  List.map_inj_left.1 rfl

theorem jpRows_operation (a : Word) : ∀ r ∈ jpRows, operationOf (r.1 a) = .jumpIf r.2 a := List.map_inj_left.1 rfl

theorem jrRows_entry : ∀ r ∈ jrRows, baseEntry (opByte (0x20 + 8 * condIndex r.2)) = .withByte r.1 :=
  List.map_inj_left.1 rfl

theorem jrRows_operation (e : Byte) : ∀ r ∈ jrRows, operationOf (r.1 e) = .jumpRelIf r.2 e := List.map_inj_left.1 rfl

theorem callRows_entry : ∀ r ∈ callRows, baseEntry (opByte (0xC4 + 8 * condIndex r.2)) = .withWord r.1 :=
  List.map_inj_left.1 rfl

theorem callRows_operation (a : Word) : ∀ r ∈ callRows, operationOf (r.1 a) = .callIf r.2 a := List.map_inj_left.1 rfl

theorem rstRows_entry : ∀ r ∈ rstRows, baseEntry (opByte (0xC7 + 8 * r.2)) = .plain r.1 := List.map_inj_left.1 rfl

theorem rstRows_operation : ∀ r ∈ rstRows, operationOf r.1 = .callTo (BitVec.ofNat 16 (8 * r.2)) 4 :=
  List.map_inj_left.1 rfl

theorem retRows_entry : ∀ r ∈ retRows, baseEntry (opByte (0xC0 + 8 * condIndex r.2)) = .plain r.1 :=
  List.map_inj_left.1 rfl

theorem retRows_operation : ∀ r ∈ retRows, operationOf r.1 = .retIf r.2 := List.map_inj_left.1 rfl

/-! ### Jumps -/

theorem jumpIf_eq (cc : Cond) (a : Word) (s : State) :
    jumpIf cc a s = .next (if condHolds cc s then { s with pc := a, cycles := 4 } else { s with cycles := 3 }) := by
  rw [jumpIf, cond_eq_condHolds, apply_ite Host.Outcome.next]
  rfl

/-- The target of a relative jump is the signed sum, as for a displacement of SP (R254). -/
theorem add_sext16 (pc : Word) (e : Byte) : pc + sext16 e = BitVec.ofInt 16 ((pc.toNat : Int) + e.toInt) :=
  spadd_value pc e

theorem jumpRel_eq (e : Byte) (s : State) : (Operation.jumpRel e).run s = .next
    { s with pc := BitVec.ofInt 16 ((s.pc.toNat : Int) + e.toInt), cycles := 3 } := by
  rw [← add_sext16]
  rfl

theorem jumpRelIf_eq (cc : Cond) (e : Byte) (s : State) : jumpRelIf cc e s = .next
    (if condHolds cc s then { s with pc := BitVec.ofInt 16 ((s.pc.toNat : Int) + e.toInt), cycles := 3 }
     else { s with cycles := 2 }) := by
  rw [jumpRelIf, cond_eq_condHolds, apply_ite Host.Outcome.next, add_sext16]
  rfl

/-- Settles O29: each jump is its operation, with the flag test of its condition and the target as a signed sum. -/
theorem jumps : Obligations.Jumps := by
  unfold Obligations.Jumps
  refine ⟨fun a => ⟨encodes_withWord rfl a, exec_of_operation (op := .jump a) rfl⟩, fun r hr a => ⟨?_, fun s => ?_⟩,
    ⟨encodes_plain rfl, exec_of_operation (op := .jumpHL) rfl⟩,
    fun e => ⟨encodes_withByte rfl e, fun s => ?_⟩, fun r hr e => ⟨?_, fun s => ?_⟩⟩
  · exact encodes_withWord (jpRows_entry r hr) a
  · exact (exec_of_operation (jpRows_operation a r hr) s).trans (jumpIf_eq r.2 a s)
  · exact (exec_of_operation (op := .jumpRel e) rfl s).trans (jumpRel_eq e s)
  · exact encodes_withByte (jrRows_entry r hr) e
  · exact (exec_of_operation (jrRows_operation e r hr) s).trans (jumpRelIf_eq r.2 e s)

/-! ### Calls and restarts -/

theorem callIf_taken {cc : Cond} {s : State} (h : condHolds cc s = true) (a : Word) :
    callIf cc a s = callTo a 6 s := by
  rw [callIf, cond_eq_condHolds, if_pos h]

theorem callIf_untaken {cc : Cond} {s : State} (h : condHolds cc s = false) (a : Word) :
    callIf cc a s = .next { s with cycles := 3 } := by
  rw [callIf, cond_eq_condHolds, if_neg (Bool.eq_false_iff.1 h)]
  rfl

/-- A call pushes PC before it goes to its target (R256, R261). -/
theorem pushesThen_of_callTo {i : Instr} {a : Word} {m : Nat} (h : operationOf i = .callTo a m) :
    PushesThen i (fun s => s.pc) m (fun u => { u with pc := a }) :=
  pushesThen_of_andThen (exec_of_operation h)

/-- Settles O30: `CALL`, a `CALL cc` taken and `RST` are `callTo`, at their target and count. -/
theorem calls : Obligations.Calls := by
  unfold Obligations.Calls
  refine ⟨fun a => ⟨encodes_withWord rfl a, pushesThen_of_callTo rfl⟩, fun r hr a => ⟨?_, fun s => ?_⟩,
    fun r hr => ⟨encodes_plain (rstRows_entry r hr), pushesThen_of_callTo (rstRows_operation r hr)⟩⟩
  · exact encodes_withWord (callRows_entry r hr) a
  · rw [exec_of_operation (callRows_operation a r hr)]
    exact ⟨fun hcc => callIf_taken hcc a, fun hcc => callIf_untaken hcc a⟩

/-! ### Returns -/

theorem returnIf_taken {cc : Cond} {s : State} (h : condHolds cc s = true) :
    returnIf cc s = returnFrom s false 5 := by
  rw [returnIf, cond_eq_condHolds, if_pos h]

theorem returnIf_untaken {cc : Cond} {s : State} (h : condHolds cc s = false) :
    returnIf cc s = .next { s with cycles := 2 } := by
  rw [returnIf, cond_eq_condHolds, if_neg (Bool.eq_false_iff.1 h)]
  rfl

/-- A return by the outcome of each byte: PC is the word at SP, IME is what the return leaves, and the first refused byte
is the fault (R57, R58, R258, R260). -/
theorem returnFrom_of_bytes {s : State} {b ime : Bool} (m : Nat) (hime : (s.ime || b) = ime) :
    (∀ lo hi, memRead s s.sp = .ok lo → memRead s (s.sp + 1#16) = .ok hi → returnFrom s b m =
      .next { s with sp := s.sp + 2#16, pc := joinWord hi lo, ime := ime, cycles := m }) ∧
    (∀ f, memRead s s.sp = .error f → returnFrom s b m = .fault f) ∧
    (∀ lo f, memRead s s.sp = .ok lo → memRead s (s.sp + 1#16) = .error f → returnFrom s b m = .fault f) := by
  subst hime
  refine ⟨fun lo hi hlo hhi => ?_, fun f hlo => ?_, fun lo f hlo hhi => ?_⟩
  · rw [returnFrom, pop16_of_bytes hlo hhi]; rfl
  · rw [returnFrom, pop16_of_low_refused hlo]; rfl
  · rw [returnFrom, pop16_of_high_refused hlo hhi]; rfl

/-- Settles O31: each return is `returnFrom`, which keeps IME for `RET` and `RET cc` and sets it for `RETI`. -/
theorem returns : Obligations.Returns := by
  unfold Obligations.Returns
  refine ⟨⟨encodes_plain rfl, fun s => ?_⟩, ⟨encodes_plain rfl, fun s => ?_⟩,
    fun r hr => ⟨encodes_plain (retRows_entry r hr), fun s => ⟨fun hcc => ?_, fun hcc => ?_⟩⟩⟩
  · rw [exec_of_operation (op := .ret) rfl]
    exact returnFrom_of_bytes 4 (Bool.or_false s.ime)
  · rw [exec_of_operation (op := .reti) rfl]
    exact returnFrom_of_bytes 4 (Bool.or_true s.ime)
  · rw [(exec_of_operation (retRows_operation r hr) s).trans (returnIf_taken hcc)]
    exact returnFrom_of_bytes 5 (Bool.or_false s.ime)
  · exact (exec_of_operation (retRows_operation r hr) s).trans (returnIf_untaken hcc)

end Sys2Proof.Machine
end

section
/-! PROOFS. NOP, HALT, STOP, DI and EI (spec/47_system.md R270 to R274). -/

namespace Sys2Proof.Machine

/-- Settles O32: each is its own operation, which changes one or two fields of the control state. -/
theorem systemOps : Obligations.SystemOps := by
  unfold Obligations.SystemOps
  refine ⟨⟨encodes_plain rfl, fun s => ?_⟩, ⟨encodes_plain rfl, fun s => ?_⟩,
    fun n => ⟨encodes_withByte rfl n, fun s => ?_⟩, ⟨encodes_plain rfl, fun s => ?_⟩, encodes_plain rfl, fun s => ?_⟩
  · exact exec_of_operation (op := .nop) rfl s
  · exact exec_of_operation (op := .halt) rfl s
  · exact exec_of_operation (op := .stop) rfl s
  · exact exec_of_operation (op := .di) rfl s
  · exact exec_of_operation (op := .ei) rfl s

end Sys2Proof.Machine
end

section
/-! PROOFS. Interrupts, wakes and faults (spec/60_exceptions.md R300 to R319, spec/70_reset_and_hazards.md R412). -/

namespace Sys2Proof.Machine

open Claims

/-! ### The halt wake and the stop (R317, R318) -/

theorem haltWake_of_idle {s : State} (h : pending s = 0#8) : haltWake s = s := by
  rw [haltWake_eq, decide_eq_true h, Bool.and_true]

theorem haltWake_of_pending {s : State} (h : pending s ≠ 0#8) : haltWake s = { s with halted := false } := by
  rw [haltWake_eq, decide_eq_false h, Bool.and_false]

theorem cpuStep_of_stopped {s : State} (h : s.stopped = true) :
    cpuStep s = .next { s with stopped := !(handleValue s ioIF).getLsbD 4, cycles := 1 } := by
  rw [cpuStep, if_pos h]
  cases hb : (handleValue s ioIF).getLsbD 4
  · rw [if_neg Bool.false_ne_true, Bool.not_false, ← h]; rfl
  · rfl

/-- A CPU that is not stopped services, idles or runs an instruction, after the halt wake (R85). -/
theorem cpuStep_of_not_stopped {s : State} (h : s.stopped = false) :
    cpuStep s = if s.ime && decide (pending s ≠ 0#8) then serviceInterrupt (haltWake s) (lowestPending (pending s))
      else if (haltWake s).halted then finish 1 (haltWake s) else runInstr (haltWake s) := by
  rw [cpuStep, if_neg (Bool.eq_false_iff.1 h)]
  simp only [haltWake_ime, pending_haltWake]

theorem cpuStep_of_halted {s : State} (hstop : s.stopped = false) (hhalt : s.halted = true)
    (hidle : pending s = 0#8) : cpuStep s = .next { s with cycles := 1 } := by
  have hnone : (s.ime && decide (pending s ≠ 0#8)) = false := by
    rw [decide_eq_false (not_not_intro hidle), Bool.and_false]
  rw [cpuStep_of_not_stopped hstop, hnone, if_neg Bool.false_ne_true, haltWake_of_idle hidle, if_pos hhalt]
  rfl

/-- Settles O39: the stop test comes before everything else, and only a pending interrupt wakes a halted CPU. -/
theorem haltAndStopWake : Obligations.HaltAndStopWake := by
  unfold Obligations.HaltAndStopWake
  refine fun s => ⟨fun hstop hhalt => ⟨cpuStep_of_halted hstop hhalt, fun hpend hime => ?_⟩, cpuStep_of_stopped⟩
  have hwake := haltWake_of_pending hpend
  rw [cpuStep_eq_runInstr hstop (by rw [hwake]) (.inl hime), hwake]

/-! ### The interrupt service (R312 to R316) -/

/-- The source serviced is the one with its bit set and none below it (R315). -/
theorem lowestPending_eq {p : Byte} {i : Nat} (hi : i < 5) (hset : p.getLsbD i = true)
    (hlow : ∀ j, j < i → p.getLsbD j = false) : lowestPending p = i := by
  unfold lowestPending
  interval_cases i <;>
    simp only [hset, hlow, Nat.reduceLT, Nat.ofNat_pos, zero_lt_one, Bool.false_eq_true, if_true, if_false]

theorem ne_zero_of_getLsbD {p : Byte} {i : Nat} (h : p.getLsbD i = true) : p ≠ 0#8 := by
  rintro rfl
  simp at h

theorem cpuStep_eq_serviceInterrupt {s : State} (hstop : s.stopped = false) (hime : s.ime = true)
    (hpend : pending s ≠ 0#8) :
    cpuStep s = serviceInterrupt { s with halted := false } (lowestPending (pending s)) := by
  have hdue : (s.ime && decide (pending s ≠ 0#8)) = true := by rw [hime, decide_eq_true hpend, Bool.and_self]
  rw [cpuStep_of_not_stopped hstop, hdue, if_pos rfl, haltWake_of_pending hpend]

/-- A service by the outcome of its push (R314). -/
theorem serviceInterrupt_of_push {s u : State} (h : push16 s s.pc = .ok u) (i : Nat) :
    serviceInterrupt s i = .next
      { handleWrite { u with pc := vectorOf i, ime := false, eiDelay := false } ioIF
          (handleValue u ioIF &&& ~~~(1#8 <<< i)) with cycles := 5 } := by
  rw [serviceInterrupt, h]
  rfl

theorem serviceInterrupt_of_push_refused {s : State} {f : Fault} (h : push16 s s.pc = .error f) (i : Nat) :
    serviceInterrupt s i = .fault f := by
  rw [serviceInterrupt, h]
  rfl

/-- Settles O38: the step is the service of the lowest source, on the state after the halt wake. -/
theorem interruptService : Obligations.InterruptService := by
  unfold Obligations.InterruptService
  intro s i hstop hime hi hset hlow
  have hstep : cpuStep s = serviceInterrupt { s with halted := false } i := by
    rw [cpuStep_eq_serviceInterrupt hstop hime (ne_zero_of_getLsbD hset), lowestPending_eq hi hset hlow]
  exact ⟨fun u hu => hstep.trans (serviceInterrupt_of_push hu i),
    fun f hf => hstep.trans (serviceInterrupt_of_push_refused hf i)⟩

/-! ### A service and its return (R313, R314, R319) -/

/-- A stored byte elsewhere reads the same after a write to IF. -/
theorem memRead_handleWrite_if {s : State} {a : Word} (v : Byte) (hcart : inCart a = false) (ha : a ≠ ioIF) :
    memRead (handleWrite s ioIF v) a = memRead s a := by
  have hne : storageAddr a ≠ ioIF.toNat := by
    have hn : a.toNat ≠ ioIF.toNat := fun h => ha (BitVec.eq_of_toNat_eq h)
    have hif : ioIF.toNat = 0xFF0F := rfl
    unfold storageAddr
    split_ifs <;> omega
  exact memRead_congr (fun hin => by rw [hcart] at hin; cases hin) (Memory.get_put_of_ne hne)

/-- `RETI` goes back to the word on the stack (R260). -/
theorem exec_reti_of_read {s : State} {w : Word} (h : memRead16 s s.sp = .ok w) :
    exec .reti s = .next { s with sp := s.sp + 2#16, pc := w, ime := true, cycles := 4 } := by
  rw [exec_of_operation (op := .reti) rfl]
  change returnFrom s true 4 = _
  simp only [returnFrom, pop16_of_read h, andThen, finish, Bool.or_true]

/-- Settles O45: the service leaves PC in the two bytes at SP, its write of IF does not touch them, and `RETI` pops
them. -/
theorem serviceThenReti : Obligations.ServiceThenReti := by
  unfold Obligations.ServiceThenReti
  intro s hs hstop hime hpend hstack
  have hnext : s.sp - 2#16 + 1#16 = s.sp - 1#16 := by bv_omega
  obtain ⟨clo, plo, ilo⟩ := hstack (s.sp - 2#16) (.inl rfl)
  obtain ⟨chi, phi, ihi⟩ := hnext ▸ hstack (s.sp - 1#16) (.inr rfl)
  have hlo : Stored (s.sp - 2#16) := ⟨clo, plo⟩
  have hhi : Stored (s.sp - 2#16 + 1#16) := ⟨chi, phi⟩
  obtain ⟨u, hu⟩ := memWrite16_ok_of_stored (s := { s with halted := false, sp := s.sp - 2#16 }) hlo hhi s.pc
  obtain ⟨rlo, rhi⟩ := memRead_memWrite16 hu hs hlo hhi
  have hpush : push16 { s with halted := false } s.pc = .ok u := hu
  have hframe := frame_push16 (w := { sp := true }) rfl hpush
  have hsp : u.sp = s.sp - 2#16 := (push16_sp hpush :)
  have hread : ∀ v, memRead16 (handleWrite u ioIF v) u.sp = .ok s.pc := fun v =>
    hsp ▸ memRead16_of_reads ((memRead_handleWrite_if v clo ilo).trans rlo)
      ((memRead_handleWrite_if v chi ihi).trans rhi)
  refine ⟨_, _, (cpuStep_eq_serviceInterrupt hstop hime hpend).trans (serviceInterrupt_of_push hpush _), rfl,
    exec_reti_of_read (hread _), rfl, ?_, hframe.f rfl, rfl, hframe.halted rfl,
    fun r => hframe.regs r List.not_mem_nil⟩
  change u.sp + 2#16 = s.sp
  rw [hsp, BitVec.sub_add_cancel]

/-! ### Faults (R300, R302) -/

theorem encodes_of_undefined {i : Instr} {b : Byte} (h : operationOf i = .undefined b) :
    b ∈ undefinedBytes ∧ Encodes [b] i := by
  obtain ⟨henc, hmem⟩ := encode_of_undefined h
  have hne : b ≠ 0xCB#8 := fun hb => absurd (hb ▸ hmem) (by decide)
  exact ⟨hmem, encodes_of_encode henc (wf_of_encode_head_ne henc hne)⟩

theorem exec_fault {i : Instr} {s : State} {f : Fault} (h : exec i s = .fault f) :
    (∃ b ∈ undefinedBytes, f = .unknownOpcode .base b ∧ Encodes [b] i) ∨ f.ofCart := by
  rcases exec_answer i s with hbus | ⟨b, hop, hundef⟩
  · rw [h] at hbus
    exact .inr hbus.1
  · cases h.symm.trans hundef
    obtain ⟨hmem, henc⟩ := encodes_of_undefined hop
    exact .inl ⟨b, hmem, rfl, henc⟩

theorem cpuStep_fault_kind {s : State} {f : Fault} (h : cpuStep s = .fault f) :
    (∃ b ∈ undefinedBytes, f = .unknownOpcode .base b ∧ memRead s s.pc = .ok b) ∨ f.ofCart := by
  rcases cpuStep_answer s with hbus | ⟨b, hmem, hpc, hundef⟩
  · rw [h] at hbus
    exact .inr hbus.1
  · cases h.symm.trans hundef
    exact .inl ⟨b, hmem, rfl, hpc⟩

/-- Settles O42: an instruction or a `Step()` that ends with a fault is an undefined opcode's or was refused an access;
a tick's fault is its step's, or the state's own. -/
theorem faultKinds : Obligations.FaultKinds := by
  unfold Obligations.FaultKinds
  refine ⟨fun i s f => exec_fault, fun s f => cpuStep_fault_kind, fun s f h => ?_⟩
  rcases tick_fault h with hfaulted | ⟨hrun, hstep⟩
  · exact .inl hfaulted
  · exact .inr ⟨hrun, envPhase_pc Config.default s ▸ cpuStep_fault_kind hstep⟩

end Sys2Proof.Machine
end

section
/-! PROOFS. The state at launch (spec/70_reset_and_hazards.md R400, R403). -/

namespace Sys2Proof.Machine

open Claims

theorem handleValue_reset (a : Word) : handleValue State.reset a = Memory.unlisted a.toNat := Memory.get_nil a.toNat

theorem handleValue_reset_sound : ∀ r ∈ resetSound, handleValue State.reset r.1 = r.2 := by
  simp [resetSound, handleValue_reset, Memory.unlisted]

/-- Settles O51: each field is the one `State.launch` writes, and nothing listed in memory reads as the reset value. -/
theorem resetState : Obligations.ResetState := by
  unfold Obligations.ResetState
  refine ⟨?_, rfl, handleValue_reset_sound, handleValue_reset _⟩
  rintro cart mem env s rfl
  refine ⟨rfl, rfl, rfl, rfl, rfl, rfl, rfl, rfl, rfl, rfl, rfl, rfl, rfl, rfl, rfl, fun _ => rfl, rfl, rfl, rfl, rfl,
    fun v hv => ?_, rfl, rfl, fun e he => ?_, fun e he => ?_, rfl, rfl, rfl⟩
  · rw [List.eq_of_mem_replicate (n := 4) (a := Voice.reset) hv]
    exact ⟨rfl, rfl, rfl, rfl, rfl, rfl, rfl, rfl⟩
  · rw [List.eq_of_mem_replicate (n := 3) (a := Envelope.reset) he]
    exact ⟨rfl, rfl⟩
  · rw [List.eq_of_mem_replicate (n := 4) (a := Envelope.reset) he]
    exact ⟨rfl, rfl⟩

end Sys2Proof.Machine
end

section
/-! PROOFS. Frequencies and the fields of the sound registers (spec/60_exceptions.md R335 to R342, R349 to R351, R354):
the model cuts bits out of a byte where the statements divide it and take remainders. -/

namespace Sys2Proof.Machine

open Claims

/-! ### The frequency conversion (R339) -/

theorem bitsToFrequency_mul {n : Nat} (h : n < 2048) : bitsToFrequency n * (2048 - (n : Rat)) = 131072 := by
  have hlt : (n : Rat) < 2048 := by exact_mod_cast h
  exact div_mul_cancel₀ _ (by linarith)

theorem le_bitsToFrequency {n : Nat} (h : n < 2048) : 64 ≤ bitsToFrequency n := by
  have hlt : (n : Rat) < 2048 := by exact_mod_cast h
  have hn : (0 : Rat) ≤ n := Nat.cast_nonneg n
  rw [bitsToFrequency, le_div_iff₀ (by linarith)]
  linarith

theorem bitsToFrequency_le {n : Nat} (h : n < 2048) : bitsToFrequency n ≤ 131072 := by
  have hle : (n : Rat) ≤ 2047 := by exact_mod_cast Nat.le_of_lt_succ h
  rw [bitsToFrequency, div_le_iff₀ (by linarith)]
  linarith

theorem frequencyToBits_bitsToFrequency {n : Nat} (h : n < 2048) : frequencyToBits (bitsToFrequency n) = n := by
  have hdiv : 131072 / bitsToFrequency n = 2048 - (n : Rat) := by
    rw [div_eq_iff (bitsToFrequency_pos h).ne', mul_comm, bitsToFrequency_mul h]
  rw [frequencyToBits, hdiv, sub_sub_cancel]
  change ⌊(n : Rat) + 1 / 2⌋ = n
  rw [Int.floor_natCast_add]
  norm_num

/-- Settles O57: the frequency is a quotient whose divisor is at least 1, so dividing by it gives the divisor back. -/
theorem frequencyRoundTrip : Obligations.FrequencyRoundTrip := by
  unfold Obligations.FrequencyRoundTrip
  exact fun n h =>
    ⟨bitsToFrequency_mul h, le_bitsToFrequency h, bitsToFrequency_le h, frequencyToBits_bitsToFrequency h⟩

/-! ### The fields of a register -/

theorem extractLsb'_eq_ofNat (v : Byte) (k n : Nat) : v.extractLsb' k n = BitVec.ofNat n (v.toNat / 2 ^ k) := by
  apply BitVec.eq_of_toNat_eq
  rw [BitVec.extractLsb'_toNat, BitVec.toNat_ofNat, Nat.shiftRight_eq_div_pow]

theorem toNat_extractLsb' (v : Byte) (k n : Nat) : (v.extractLsb' k n).toNat = v.toNat / 2 ^ k % 2 ^ n := by
  rw [BitVec.extractLsb'_toNat, Nat.shiftRight_eq_div_pow]

theorem freqBits_toNat (s : State) (lo hi : Word) : (freqBits s lo hi).toNat = freqValue s lo hi := by
  have hlo := (handleValue s lo).isLt
  rw [freqBits, BitVec.toNat_append, ← Nat.shiftLeft_add_eq_or_of_lt hlo, toNat_extractLsb', Nat.shiftLeft_eq,
    freqValue]
  omega

theorem freqBits_eq (s : State) (lo hi : Word) : freqBits s lo hi = BitVec.ofNat 11 (freqValue s lo hi) := by
  rw [← freqBits_toNat, BitVec.ofNat_toNat, BitVec.setWidth_eq]

theorem freqValue_lt (s : State) (lo hi : Word) : freqValue s lo hi < 2048 := freqBits_toNat s lo hi ▸ BitVec.isLt _

/-- The duty table is an eighth, then quarters (R349). -/
theorem dutyOf_eq (v : Byte) : dutyOf v = dutySpec v := by
  have hv := v.isLt
  have hcode : v.toNat / 2 ^ 6 % 2 ^ 2 = v.toNat / 64 := by omega
  have hlt : v.toNat / 64 < 4 := by omega
  rw [dutyOf, dutySpec, toNat_extractLsb', hcode]
  generalize v.toNat / 64 = code at hlt
  interval_cases code <;> norm_num

theorem ampPack_eq (v : Byte) : ampPack v = amplitudePack v := by
  have hn : BitVec.ofNat 3 (v.toNat / 2 ^ 0) = BitVec.ofNat 3 (v.toNat % 8) :=
    BitVec.eq_of_toNat_eq (by simp)
  rw [ampPack, amplitudePack, extractLsb'_eq_ofNat, extractLsb'_eq_ofNat, hn]
  rfl

/-! ### Lengths (R335 to R338, R341) -/

theorem lengthSeconds_eq {steps : Nat} (h : 0 < steps) (v : Byte) :
    lengthSeconds steps v = ((steps : Rat) - ((v.toNat % steps : Nat) : Rat)) / 256 := by
  rw [lengthSeconds, Nat.cast_sub (Nat.mod_lt _ h).le]

theorem lengthSeconds_pos {steps : Nat} (h : 0 < steps) (v : Byte) : 0 < lengthSeconds steps v :=
  div_pos (Nat.cast_pos.2 (Nat.sub_pos_of_lt (Nat.mod_lt _ h))) (by norm_num)

theorem shortLenPack_eq (s : State) (nr1 nr4 : Word) :
    shortLenPack (handleValue s nr1) (handleValue s nr4) = lengthPack s 64 nr1 nr4 := by
  rw [shortLenPack, lengthPack, lengthSeconds_eq (by norm_num), toNat_extractLsb', pow_zero, Nat.div_one]
  norm_num

theorem waveLenPack_eq (s : State) (nr1 nr4 : Word) :
    waveLenPack (handleValue s nr1) (handleValue s nr4) = lengthPack s 256 nr1 nr4 := by
  rw [waveLenPack, lengthPack, lengthSeconds_eq (by norm_num), Nat.mod_eq_of_lt (handleValue s nr1).isLt]
  norm_num

theorem lenStatus_eq_deactivated_iff (p : LenPack) (x : Rat) :
    lenStatus p x = .deactivated ↔ p.enabled = true ∧ p.duration ≠ 0 ∧ p.duration ≤ x := by
  unfold lenStatus
  split_ifs with hna hge
  · exact iff_of_false nofun fun ⟨hon, hpos, _⟩ => hna.elim (fun hoff => Bool.eq_false_iff.1 hoff hon) hpos
  · obtain ⟨hon, hpos⟩ := not_or.1 hna
    exact iff_of_true rfl ⟨eq_true_of_ne_false hon, hpos, hge⟩
  · exact iff_of_false nofun fun ⟨_, _, hle⟩ => hge hle

/-- A length's seconds are never 0, so it is out of play only where it is not enabled. -/
theorem lenStatus_lengthPack_iff {steps : Nat} (h : 0 < steps) (s : State) (nr1 nr4 : Word) (e : Envelope LenPack) :
    lenStatus (lengthPack s steps nr1 nr4) e.elapsed = .deactivated ↔ LengthOver s steps nr1 nr4 e := by
  rw [lenStatus_eq_deactivated_iff, LengthOver]
  exact and_congr_right' (and_iff_right (lengthSeconds_pos h _).ne')

/-! ### The sweep (R335, R342, R354) -/

theorem sweepPackOf_eq (P : Config.Params) (s : State) : sweepPackOf P s = sweepPackSpec P s := by
  have hn : BitVec.ofNat 3 ((handleValue s ioNR10).toNat / 2 ^ 0) = BitVec.ofNat 3 ((handleValue s ioNR10).toNat % 8) :=
    BitVec.eq_of_toNat_eq (by simp)
  rw [sweepPackOf, sweepPackSpec, freqBits_eq, extractLsb'_eq_ofNat, extractLsb'_eq_ofNat, hn]
  norm_num

theorem sweepBits_eq (P : Config.Params) (s : State) (x : Rat) : sweepBits (sweepPackSpec P s) x = sweptBits P s x := by
  have hstart : (sweepPackSpec P s).startBits.toNat = freqValue s ioNR13 ioNR14 :=
    Nat.mod_eq_of_lt (freqValue_lt s ioNR13 ioNR14)
  have hshifts : (sweepPackSpec P s).sweepShifts.toNat = (handleValue s ioNR10).toNat % 8 :=
    Nat.mod_mod _ 8
  rw [sweepBits, sweptBits, hstart, hshifts]
  simp only [Nat.shiftLeft_eq, Nat.shiftRight_eq_div_pow]
  rfl

theorem sweepStatus_eq_deactivated_iff (P : Config.Params) (s : State) (x : Rat) :
    sweepStatus (sweepPackSpec P s) x = .deactivated ↔ SweepOver P s x := by
  rw [sweepStatus, sweepBits_eq, SweepOver]
  change (if sweepSeconds P s = 0 then _ else _) = _ ↔ _
  split_ifs with h0 hout
  · simp [h0]
  · simp [h0, hout]
  · simp [h0, hout]

/-! ### Envelopes (R340, R343, R344) -/

theorem envelopeRuns_runEnvelope {Q : Type} [DecidableEq Q] (e : Envelope Q) (p : Q) (edge : Bool) (d : Rat) :
    EnvelopeRuns p edge d e (runEnvelope e p edge (d / 4194304)) := by
  refine ⟨runEnvelope_params .., fun h => ?_, fun hedge hp => ?_⟩
  · rw [runEnvelope_elapsed, if_pos h, zero_add]
  · rw [runEnvelope_elapsed, if_neg (by simp [hedge, hp])]

theorem clampInt_eq (x : Int) : clampInt x 0 15 = max 0 (min 15 x) := by
  unfold clampInt
  omega

/-- The model moves the start step by a signed count of periods, and then holds it in range. -/
theorem ampStep_eq (v : Byte) (x : Rat) : ampStep (amplitudePack v) x = amplitudeSteps v x := by
  have hv := v.isLt
  have hstart : (amplitudePack v).startStep.toNat = v.toNat / 16 := Nat.mod_eq_of_lt (show v.toNat / 16 < 16 by omega)
  have hinc : (amplitudePack v).increasing = v.getLsbD 3 := rfl
  have hn : (amplitudePack v).n.toNat = v.toNat % 8 := Nat.mod_mod _ 8
  have hzero : (amplitudePack v).n = 0#3 ↔ v.toNat % 8 = 0 := by rw [BitVec.toNat_eq, hn]; rfl
  have hperiods : x / (((v.toNat % 8 : Nat) : Rat) / 64) = 64 * x / ((v.toNat % 8 : Nat) : Rat) := by
    rw [div_div_eq_mul_div, mul_comm]
  simp only [ampStep, amplitudeSteps, hzero, hstart, hinc, hn, hperiods, clampInt_eq]
  split_ifs with h0 hup
  · rfl
  · rfl
  · rw [Int.sub_eq_add_neg]

theorem ampValue_mul (v : Byte) (x : Rat) : ampValue (ampPack v) x * 15 = (amplitudeSteps v x : Rat) := by
  rw [ampValue, ampPack_eq, ampStep_eq, div_mul_cancel₀ _ (by norm_num)]

/-! ### The default formulas (R338, R351, R354) -/

theorem defaultMasterVolume_eq (v : Byte) : Config.default.masterVolume v =
    (((v.toNat / 16 % 8 + 1 : Nat) : Rat) / 8, ((v.toNat % 8 + 1 : Nat) : Rat) / 8) := by
  change Config.defaultMasterVolume v = _
  rw [Config.defaultMasterVolume, toNat_extractLsb', toNat_extractLsb', pow_zero, Nat.div_one]
  norm_num

theorem defaultNoiseFreq_mul (v : Byte) : Config.default.noiseFreq v *
    ((if v.toNat % 8 = 0 then 1 / 2 else ((v.toNat % 8 : Nat) : Rat)) * 2 ^ (v.toNat / 16 + 1)) = 524288 := by
  have hv := v.isLt
  have hs : v.toNat / 2 ^ 4 % 2 ^ 4 = v.toNat / 16 := by omega
  have hdivisor : (if v.toNat % 8 = 0 then 1 / 2 else ((v.toNat % 8 : Nat) : Rat)) ≠ 0 := by
    split_ifs with h0
    · norm_num
    · exact Nat.cast_ne_zero.2 h0
  change Config.defaultNoiseFreq v * _ = _
  simp only [Config.defaultNoiseFreq, toNat_extractLsb', hs, pow_zero, Nat.div_one, show 2 ^ 3 = 8 from rfl,
    Nat.cast_pow, Nat.cast_ofNat]
  rw [div_div, div_mul_cancel₀ _ (mul_ne_zero hdivisor (by positivity))]

theorem defaultSweepTime_eq :
    ([0, 1, 2, 3, 4, 5, 6, 7] : List (BitVec 3)).map (fun c => Config.default.sweepTime c * 10000) =
      [0, 78, 156, 234, 313, 391, 469, 547] := by
  simp [Config.default, Config.defaultSweepTime]

end Sys2Proof.Machine
end

section
/-! PROOFS. What a run of the APU touches, its calls of the output port, and a run with the master off
(spec/60_exceptions.md R330 to R333, R346, R348, R350 to R353). -/

namespace Sys2Proof.Machine

open Claims

/-! ### The registers and the calls of each stage -/

/-- `t` comes from `s` by writes to the sound registers alone, and by calls that the APU may make (R62, R353). -/
def State.soundWork (s t : State) : Prop :=
  (∀ n, n < 0xFF10 ∨ 0xFF26 < n →
    Memory.get t.mem n = Memory.get s.mem n ∧ Versions.get t.versions n = Versions.get s.versions n) ∧
  ∃ calls, t.sink = s.sink ++ calls ∧ ∀ c ∈ calls, apuCall c = true

theorem soundWork_trans {s t u : State} (h1 : s.soundWork t) (h2 : t.soundWork u) : s.soundWork u := by
  obtain ⟨k1, c1, s1, a1⟩ := h1
  obtain ⟨k2, c2, s2, a2⟩ := h2
  refine ⟨fun n hn => ⟨(k2 n hn).1.trans (k1 n hn).1, (k2 n hn).2.trans (k1 n hn).2⟩, c1 ++ c2, ?_, ?_⟩
  · rw [s2, s1, List.append_assoc]
  · exact List.forall_mem_append.2 ⟨a1, a2⟩

theorem soundWork_of_calls {s t : State} (calls : List SinkCall) (hm : t.mem = s.mem) (hv : t.versions = s.versions)
    (hsink : t.sink = s.sink ++ calls) (hcalls : ∀ c ∈ calls, apuCall c = true) : s.soundWork t :=
  ⟨fun _ _ => ⟨by rw [hm], by rw [hv]⟩, calls, hsink, hcalls⟩

theorem setApu_soundWork (s : State) (u : Apu) : s.soundWork { s with apu := u } :=
  soundWork_of_calls [] rfl rfl (List.append_nil _).symm nofun

theorem handleWrite_soundWork (s : State) {a : Word} (v : Byte) (ha : 0xFF10 ≤ a.toNat ∧ a.toNat ≤ 0xFF26) :
    s.soundWork (handleWrite s a v) :=
  ⟨fun _ hn => handleWrite_get_of_ne (by omega), [], (List.append_nil _).symm, nofun⟩

/-- Each voice's run writes its own state and one bit of NR52 (R334, R346). -/
theorem setApu_bitWrite_soundWork (s : State) (u : Apu) (i : Nat) (b : Bool) :
    s.soundWork (handleBitWrite { s with apu := u } ioNR52 i b) :=
  soundWork_trans (setApu_soundWork s u) (handleWrite_soundWork _ _ (by decide))

theorem mixed_soundWork (P : Config.Params) (d : Rat) (s : State) : s.soundWork (mixed P d s) :=
  soundWork_trans (soundWork_trans (soundWork_trans (soundWork_trans (soundWork_trans (setApu_soundWork ..)
    (setApu_bitWrite_soundWork ..)) (setApu_bitWrite_soundWork ..)) (setApu_bitWrite_soundWork ..))
    (setApu_bitWrite_soundWork ..)) (setApu_soundWork ..)

theorem masterVolume_soundWork (P : Config.Params) (b : Bool) (s : State) : s.soundWork (masterVolume P b s) := by
  refine soundWork_of_calls _ (masterVolume_mem ..) (masterVolume_versions ..) (masterVolume_sink ..) ?_
  cases b <;> simp [apuCall]

theorem rampsOf_apuCall (id : VoiceId) (v : Voice) : ∀ c ∈ rampsOf id v, apuCall c = true := by
  simp [rampsOf, apuCall]

theorem updateAll_soundWork (s : State) : s.soundWork (updateAll s) := by
  refine soundWork_of_calls _ (updateAll_mem s).1 (updateAll_mem s).2 (updateAll_sink s) ?_
  simp only [List.forall_mem_append, List.cons_append, List.forall_mem_cons]
  refine ⟨rfl, ⟨⟨⟨rampsOf_apuCall _ _, rfl, rampsOf_apuCall _ _⟩, ?_⟩, rampsOf_apuCall _ _⟩, rampsOf_apuCall _ _⟩
  split_ifs <;> simp [apuCall]

theorem clearRegs_soundWork {l : List Word} (h : ∀ a ∈ l, 0xFF10 ≤ a.toNat ∧ a.toNat ≤ 0xFF26) (s : State) :
    s.soundWork (l.foldl (fun t a => handleWrite t a 0x00#8) s) := by
  induction l generalizing s with
  | nil => exact setApu_soundWork s s.apu
  | cons a l ih =>
    obtain ⟨ha, hl⟩ := List.forall_mem_cons.1 h
    exact soundWork_trans (handleWrite_soundWork s _ ha) (ih hl _)

theorem rampAllToZero_sink (s : State) : (rampAllToZero s).sink = s.sink ++
    [.rampAmplitude .pulseA 0 rampTime, .rampAmplitude .pulseB 0 rampTime, .rampAmplitude .wave 0 rampTime,
      .rampAmplitude .noise 0 rampTime] := by
  simp [rampAllToZero]

theorem rampAllToZero_soundWork (s : State) : s.soundWork (rampAllToZero s) :=
  soundWork_of_calls _ rfl rfl (rampAllToZero_sink s) (by simp [apuCall])

theorem silenceVoices_soundWork (s : State) : s.soundWork (silenceVoices s) := setApu_soundWork ..

theorem soundRegs_range : ∀ a ∈ soundRegs, 0xFF10 ≤ a.toNat ∧ a.toNat ≤ 0xFF26 := by simp [soundRegs]

theorem clearSoundRegs_soundWork (s : State) : s.soundWork (clearSoundRegs s) := clearRegs_soundWork soundRegs_range s

theorem masterDisable_soundWork (s : State) : s.soundWork (masterDisable s) :=
  soundWork_trans (soundWork_trans (clearSoundRegs_soundWork s) (silenceVoices_soundWork _)) (rampAllToZero_soundWork _)

/-- A run with the master off (R332). -/
theorem apuRun_off {P : Config.Params} {d : Rat} {s : State} (hm : masterOn s = false) :
    apuRun P d s = setMasterPrev false (if s.apu.masterPrev then masterDisable s else s) := by
  unfold apuRun
  simp only
  exact if_neg (Bool.eq_false_iff.1 hm)

/-- A run writes the sound registers alone, and makes the calls of the APU alone (R62, R330 to R333, R353). -/
theorem apuRun_soundWork (P : Config.Params) (d : Rat) (s : State) : s.soundWork (apuRun P d s) := by
  cases hm : masterOn s with
  | true =>
    rw [apuRun_on hm]
    exact soundWork_trans (soundWork_trans (soundWork_trans (mixed_soundWork ..) (masterVolume_soundWork ..))
      (updateAll_soundWork _)) (masterVolume_soundWork ..)
  | false =>
    rw [apuRun_off hm]
    refine soundWork_trans ?_ (setApu_soundWork ..)
    split_ifs
    · exact masterDisable_soundWork s
    · exact setApu_soundWork s s.apu

/-! ### The calls of a run with the master on (R348, R350, R351) -/

theorem rampsOf_eq (id : VoiceId) (v : Voice) : rampsOf id v = rampCalls id v := by
  have htarget : v.target =
      if v.muted = true ∨ v.stopped = true ∨ (v.leftOn = false ∧ v.rightOn = false) then 0 else v.amplitude := by
    simp only [Voice.target, Bool.or_eq_true, Bool.and_eq_true, Bool.not_eq_true', or_assoc]
  rw [rampsOf, rampCalls, htarget]
  rfl

theorem waveKeyOf_eq (s : State) : waveKeyOf s = wavetableKey s := by
  rw [waveKeyOf, wavetableKey, waveRamVersion, extractLsb'_eq_ofNat]
  simp only [BitVec.ofNat_add]
  rfl

theorem waveSample_eq (s : State) (j : Nat) :
    waveSample s ((handleValue s ioNR32).extractLsb' 5 2).toNat j = wavetableSample s j := by
  have hhigh : ∀ v : Byte, v.toNat / 2 ^ 4 % 2 ^ 4 = v.toNat / 16 := fun v => by omega
  simp only [waveSample, wavetableSample, toNat_extractLsb', hhigh, pow_zero, Nat.div_one, Nat.shiftRight_eq_div_pow,
    BitVec.ofNat_add]
  rfl

theorem waveTableOf_eq (s : State) : waveTableOf s = (List.range 32).map (wavetableSample s) :=
  List.map_congr_left fun j _ => waveSample_eq s j

/-- A run with the master on keeps every handle but NR52 (R346). -/
theorem apuRun_on_sameSound {P : Config.Params} {d : Rat} {s : State} (hs : s.memOk) (hm : masterOn s = true) :
    s.sameSound (apuRun P d s) := by
  rw [apuRun_on hm]
  exact masterVolume_sameSound P _ (updateAll_sameSound (masterVolume_sameSound P _ (mixed_sameSound hs)))

/-- Settles O56: each stage of a run writes sound registers or makes calls of the APU; with the master on the registers
are NR52 alone, and the calls are those of `apuRun_on_sink`. -/
theorem apuFrame : Obligations.ApuFrame := by
  unfold Obligations.ApuFrame
  refine ⟨?_, rfl, defaultMasterVolume_eq⟩
  rintro P d s t rfl
  obtain ⟨hkeep, hcalls⟩ := apuRun_soundWork P d s
  refine ⟨(apuRun_apuWork P d s).1, hkeep, hcalls, fun hs hm => ⟨(apuRun_on_sameSound hs hm).2, ?_, ?_⟩⟩
  · rw [apuRun_on_apu hs hm, waveKeyOf_eq]
  · rw [apuRun_on_sink hs hm rfl]
    simp only [rampsOf_eq, waveKeyOf_eq, waveTableOf_eq]
    rfl

/-! ### A run with the master off (R332, R333) -/

/-- Each handle of a list of distinct ones is written 0 once, and no other (R61). -/
theorem clearRegs_handles {l : List Word} (hd : l.Nodup) (hl : ∀ a ∈ l, isHandle a.toNat = true) {s : State}
    (hs : s.memOk) (a : Word) :
    handleValue (l.foldl (fun t a => handleWrite t a 0x00#8) s) a = (if a ∈ l then 0x00#8 else handleValue s a) ∧
      handleVersion (l.foldl (fun t a => handleWrite t a 0x00#8) s) a =
        if a ∈ l then handleVersion s a + 1 else handleVersion s a := by
  induction l generalizing s with
  | nil => exact ⟨rfl, rfl⟩
  | cons b l ih =>
    obtain ⟨hb, hd⟩ := List.nodup_cons.1 hd
    obtain ⟨hbh, hl⟩ := List.forall_mem_cons.1 hl
    obtain ⟨hvalue, hversion⟩ := ih hd hl (handleWrite_memOk hs hbh)
    rw [List.foldl_cons, hvalue, hversion, handleValue_handleWrite hs, handleVersion_handleWrite hs]
    by_cases hab : a = b
    · subst hab
      simp [hb]
    · simp [hab]

theorem clearSoundRegs_handles {s : State} (hs : s.memOk) (a : Word) :
    handleValue (clearSoundRegs s) a = (if a ∈ soundAddrs then 0x00#8 else handleValue s a) ∧
      handleVersion (clearSoundRegs s) a = if a ∈ soundAddrs then handleVersion s a + 1 else handleVersion s a := by
  have hregs : soundRegs = soundAddrs := rfl
  rw [clearSoundRegs, ← hregs]
  exact clearRegs_handles (by decide) (List.all_eq_true.1 soundRegs_isHandle) hs a

theorem clearSoundRegs_sink (s : State) : (clearSoundRegs s).sink = s.sink := by
  unfold clearSoundRegs
  generalize soundRegs = l
  induction l generalizing s with
  | nil => rfl
  | cons a l ih => exact ih _

theorem rampAllToZero_mem (s : State) : (rampAllToZero s).mem = s.mem := rfl

theorem rampAllToZero_versions (s : State) : (rampAllToZero s).versions = s.versions := rfl

theorem masterDisable_mem (s : State) : (masterDisable s).mem = (clearSoundRegs s).mem := by
  rw [masterDisable, rampAllToZero_mem, silenceVoices]

theorem masterDisable_versions (s : State) : (masterDisable s).versions = (clearSoundRegs s).versions := by
  rw [masterDisable, rampAllToZero_versions, silenceVoices]

theorem masterDisable_apu (s : State) : (masterDisable s).apu = (silenceVoices s).apu := by
  rw [masterDisable, rampAllToZero_apu, silenceVoices, silenceVoices, clearSoundRegs_apu]

theorem masterDisable_sink (s : State) : (masterDisable s).sink = s.sink ++
    [.rampAmplitude .pulseA 0 rampTime, .rampAmplitude .pulseB 0 rampTime, .rampAmplitude .wave 0 rampTime,
      .rampAmplitude .noise 0 rampTime] := by
  rw [masterDisable, rampAllToZero_sink, silenceVoices, clearSoundRegs_sink]

theorem setMasterPrev_self {s : State} {b : Bool} (h : s.apu.masterPrev = b) : setMasterPrev b s = s := by
  rw [setMasterPrev, ← h]

/-- On the falling edge each of the 21 registers is written 0, and no other handle (R333). -/
theorem fallingEdge_handles {s : State} (hs : s.memOk) (b : Bool) (a : Word) :
    handleValue (setMasterPrev b (masterDisable s)) a = (if a ∈ soundAddrs then 0x00#8 else handleValue s a) ∧
      handleVersion (setMasterPrev b (masterDisable s)) a =
        if a ∈ soundAddrs then handleVersion s a + 1 else handleVersion s a := by
  have hclear := clearSoundRegs_handles hs a
  rwa [handleValue, handleVersion, setMasterPrev_mem, setMasterPrev_versions, masterDisable_mem, masterDisable_versions]

end Sys2Proof.Machine

namespace Sys2Proof

open Machine Claims

/-- Settles O58: with the master off before, the run sets `masterPrev` to what it is; on the falling edge it clears the
registers, silences the voices and ramps the amplitudes, in stages that touch different parts of the state. -/
theorem masterDisable : Obligations.MasterDisable := by
  unfold Obligations.MasterDisable
  rintro P d s t hs hm rfl
  rw [apuRun_off hm]
  refine ⟨fun hprev => ?_, fun hprev => ?_⟩
  · rw [hprev, if_neg Bool.false_ne_true, setMasterPrev_self hprev]
  · rw [hprev, if_pos rfl]
    refine ⟨fun a => (fallingEdge_handles hs false a).1, fun a => (fallingEdge_handles hs false a).2, ?_, ?_⟩
    · rw [setMasterPrev, masterDisable_apu]
      rfl
    · rw [setMasterPrev_sink, masterDisable_sink]
      rfl

end Sys2Proof
end

section
/-! PROOFS. A run with the master on: the voices, their envelopes and NR52 (spec/60_exceptions.md R334 to R349, R354,
R355). Each voice is run alone and then routed, and the routing changes neither when it plays nor what it plays. -/

namespace Sys2Proof.Machine

open Claims

/-! ### What a run leaves in each voice -/

section
variable {P : Config.Params} {d : Rat} {s : State} (hs : s.memOk) (hm : masterOn s = true)

include hs hm

theorem apuRun_on_pulseA : (apuRun P d s).apu.pulseA = { (runPulseA P (d / 4194304) s).apu.pulseA with
    voice := (runPulseA P (d / 4194304) s).apu.pulseA.voice.route (handleValue s ioNR51) 0 } := by
  rw [apuRun_on_apu hs hm, mixed_apu hs]

theorem apuRun_on_pulseB : (apuRun P d s).apu.pulseB = { (runPulseB (d / 4194304) s).apu.pulseB with
    voice := (runPulseB (d / 4194304) s).apu.pulseB.voice.route (handleValue s ioNR51) 1 } := by
  rw [apuRun_on_apu hs hm, mixed_apu hs]

theorem apuRun_on_wave : (apuRun P d s).apu.wave = { (runWave P (d / 4194304) s).apu.wave with
    voice := (runWave P (d / 4194304) s).apu.wave.voice.route (handleValue s ioNR51) 2 } := by
  rw [apuRun_on_apu hs hm, mixed_apu hs]

theorem apuRun_on_noise : (apuRun P d s).apu.noise = { (runNoise P (d / 4194304) s).apu.noise with
    voice := (runNoise P (d / 4194304) s).apu.noise.voice.route (handleValue s ioNR51) 3 } := by
  rw [apuRun_on_apu hs hm, mixed_apu hs]

end

/-! ### NR52 (R346) -/

/-- `w` comes from `u` by one write of bit `i` of NR52, and no other of its bits. -/
def WritesNr52 (i : Nat) (b : Bool) (u w : State) : Prop :=
  w.memOk ∧
    (∀ k, k < 8 → (handleValue w ioNR52).getLsbD k = if k = i then b else (handleValue u ioNR52).getLsbD k) ∧
    handleVersion w ioNR52 = handleVersion u ioNR52 + 1

theorem handleBitWrite_nr52 {u : State} (hu : u.memOk) (i : Nat) (b : Bool) :
    WritesNr52 i b u (handleBitWrite u ioNR52 i b) := by
  refine ⟨handleWrite_memOk hu rfl, fun k hk => ?_, ?_⟩
  · rw [handleBitWrite, handleValue_handleWrite hu, if_pos rfl, getLsbD_replaceBit _ b hk]
  · rw [handleBitWrite, handleVersion_handleWrite hu, if_pos rfl]

theorem setApu_bitWrite_nr52 {u : State} (hu : u.memOk) (v : Apu) (i : Nat) (b : Bool) :
    WritesNr52 i b u (handleBitWrite { u with apu := v } ioNR52 i b) :=
  handleBitWrite_nr52 (u := { u with apu := v }) hu i b

theorem runPulseA_nr52 {u : State} (hu : u.memOk) (P : Config.Params) (dt : Rat) :
    WritesNr52 0 (!(runPulseA P dt u).apu.pulseA.voice.stopped) u (runPulseA P dt u) :=
  (Bool.not_not _).symm ▸ setApu_bitWrite_nr52 hu _ 0 _

theorem runPulseB_nr52 {u : State} (hu : u.memOk) (dt : Rat) :
    WritesNr52 1 (!(runPulseB dt u).apu.pulseB.voice.stopped) u (runPulseB dt u) :=
  (Bool.not_not _).symm ▸ setApu_bitWrite_nr52 hu _ 1 _

theorem runWave_nr52 {u : State} (hu : u.memOk) (P : Config.Params) (dt : Rat) :
    WritesNr52 2 (!(runWave P dt u).apu.wave.voice.stopped) u (runWave P dt u) :=
  (Bool.not_not _).symm ▸ setApu_bitWrite_nr52 hu _ 2 _

theorem runNoise_nr52 {u : State} (hu : u.memOk) (P : Config.Params) (dt : Rat) :
    WritesNr52 3 (!(runNoise P dt u).apu.noise.voice.stopped) u (runNoise P dt u) :=
  (Bool.not_not _).symm ▸ setApu_bitWrite_nr52 hu _ 3 _

/-- The four runs write NR52's bits 0 to 3, by which voices play then. -/
theorem voicesRun_nr52 {s : State} (hs : s.memOk) (P : Config.Params) (dt : Rat) :
    (∀ k, k < 8 → (handleValue (voicesRun P dt s) ioNR52).getLsbD k =
      if k = 3 then !(voicesRun P dt s).apu.noise.voice.stopped
      else if k = 2 then !(voicesRun P dt s).apu.wave.voice.stopped
      else if k = 1 then !(voicesRun P dt s).apu.pulseB.voice.stopped
      else if k = 0 then !(voicesRun P dt s).apu.pulseA.voice.stopped
      else (handleValue s ioNR52).getLsbD k) ∧
    handleVersion (voicesRun P dt s) ioNR52 = handleVersion s ioNR52 + 4 := by
  have hs0 : (setMasterPrev true s).memOk := hs
  obtain ⟨hs1, b0, v0⟩ := runPulseA_nr52 hs0 P dt
  obtain ⟨hs2, b1, v1⟩ := runPulseB_nr52 hs1 dt
  obtain ⟨hs3, b2, v2⟩ := runWave_nr52 hs2 P dt
  obtain ⟨-, b3, v3⟩ := runNoise_nr52 hs3 P dt
  refine ⟨fun k hk => ?_, ?_⟩
  · unfold voicesRun
    rw [b3 k hk, b2 k hk, b1 k hk, b0 k hk]
    rfl
  · unfold voicesRun
    rw [v3, v2, v1, v0]
    rfl

/-- After the voices have run, nothing in a run writes NR52. -/
theorem apuRun_on_nr52 {P : Config.Params} {d : Rat} {s : State} (hm : masterOn s = true) :
    handleValue (apuRun P d s) ioNR52 = handleValue (voicesRun P (d / 4194304) s) ioNR52 ∧
      handleVersion (apuRun P d s) ioNR52 = handleVersion (voicesRun P (d / 4194304) s) ioNR52 := by
  simp only [apuRun_on hm, handleValue, handleVersion, masterVolume_mem, masterVolume_versions, updateAll_mem, mixed,
    route_mem, route_versions, and_self]

/-- A voice plays after the routing as it did before. -/
theorem apuRun_on_stopped {P : Config.Params} {d : Rat} {s : State} (hs : s.memOk) (hm : masterOn s = true) :
    (apuRun P d s).apu.pulseA.voice.stopped = (voicesRun P (d / 4194304) s).apu.pulseA.voice.stopped ∧
    (apuRun P d s).apu.pulseB.voice.stopped = (voicesRun P (d / 4194304) s).apu.pulseB.voice.stopped ∧
    (apuRun P d s).apu.wave.voice.stopped = (voicesRun P (d / 4194304) s).apu.wave.voice.stopped ∧
    (apuRun P d s).apu.noise.voice.stopped = (voicesRun P (d / 4194304) s).apu.noise.voice.stopped := by
  rw [apuRun_on_apu hs hm]
  exact ⟨rfl, rfl, rfl, rfl⟩

/-- NR52 after a run reads which voices play, and its high bits stay (R346). -/
theorem apuRun_on_nr52_bits {P : Config.Params} {d : Rat} {s : State} (hs : s.memOk) (hm : masterOn s = true) {k : Nat}
    (hk : k < 8) : (handleValue (apuRun P d s) ioNR52).getLsbD k =
      if k = 3 then !(apuRun P d s).apu.noise.voice.stopped
      else if k = 2 then !(apuRun P d s).apu.wave.voice.stopped
      else if k = 1 then !(apuRun P d s).apu.pulseB.voice.stopped
      else if k = 0 then !(apuRun P d s).apu.pulseA.voice.stopped
      else (handleValue s ioNR52).getLsbD k := by
  obtain ⟨ha, hb, hw, hn⟩ := apuRun_on_stopped (P := P) (d := d) hs hm
  rw [(apuRun_on_nr52 hm).1, (voicesRun_nr52 hs P _).1 k hk, ha, hb, hw, hn]

/-! ### Envelopes, and when a voice plays (R334, R341 to R344) -/

section
variable (P : Config.Params) (d : Rat) (s : State)

theorem runPulseA_len : EnvelopeRuns (lengthPack s 64 ioNR11 ioNR14) (risingEdge s s.apu.pulseA.voice ioNR14) d
    s.apu.pulseA.len (runPulseA P (d / 4194304) s).apu.pulseA.len :=
  shortLenPack_eq s ioNR11 ioNR14 ▸ envelopeRuns_runEnvelope ..

theorem runPulseB_len : EnvelopeRuns (lengthPack s 64 ioNR21 ioNR24) (risingEdge s s.apu.pulseB.voice ioNR24) d
    s.apu.pulseB.len (runPulseB (d / 4194304) s).apu.pulseB.len :=
  shortLenPack_eq s ioNR21 ioNR24 ▸ envelopeRuns_runEnvelope ..

theorem runWave_len : EnvelopeRuns (lengthPack s 256 ioNR31 ioNR34) (risingEdge s s.apu.wave.voice ioNR34) d
    s.apu.wave.len (runWave P (d / 4194304) s).apu.wave.len :=
  waveLenPack_eq s ioNR31 ioNR34 ▸ envelopeRuns_runEnvelope ..

theorem runNoise_len : EnvelopeRuns (lengthPack s 64 ioNR41 ioNR44) (risingEdge s s.apu.noise.voice ioNR44) d
    s.apu.noise.len (runNoise P (d / 4194304) s).apu.noise.len :=
  shortLenPack_eq s ioNR41 ioNR44 ▸ envelopeRuns_runEnvelope ..

theorem runPulseA_sweep : EnvelopeRuns (sweepPackSpec P s) (risingEdge s s.apu.pulseA.voice ioNR14) d
    s.apu.pulseA.sweep (runPulseA P (d / 4194304) s).apu.pulseA.sweep :=
  sweepPackOf_eq P s ▸ envelopeRuns_runEnvelope ..

theorem runPulseA_amp : AmplitudeRuns s d ioNR12 ioNR14 s.apu.pulseA.voice
    (runPulseA P (d / 4194304) s).apu.pulseA.voice s.apu.pulseA.amp (runPulseA P (d / 4194304) s).apu.pulseA.amp :=
  ⟨ampPack_eq _ ▸ envelopeRuns_runEnvelope .., ampValue_mul ..⟩

theorem runPulseB_amp : AmplitudeRuns s d ioNR22 ioNR24 s.apu.pulseB.voice
    (runPulseB (d / 4194304) s).apu.pulseB.voice s.apu.pulseB.amp (runPulseB (d / 4194304) s).apu.pulseB.amp :=
  ⟨ampPack_eq _ ▸ envelopeRuns_runEnvelope .., ampValue_mul ..⟩

theorem runNoise_amp : AmplitudeRuns s d ioNR42 ioNR44 s.apu.noise.voice
    (runNoise P (d / 4194304) s).apu.noise.voice s.apu.noise.amp (runNoise P (d / 4194304) s).apu.noise.amp :=
  ⟨ampPack_eq _ ▸ envelopeRuns_runEnvelope .., ampValue_mul ..⟩

theorem not_decide_ne_iff {x y : EnvStatus} : (!decide (x ≠ y)) = true ↔ x = y := by simp

theorem runPulseA_stopped_iff : (runPulseA P d s).apu.pulseA.voice.stopped = true ↔
    LengthOver s 64 ioNR11 ioNR14 (runPulseA P d s).apu.pulseA.len ∨
      SweepOver P s (runPulseA P d s).apu.pulseA.sweep.elapsed := by
  rw [← lenStatus_lengthPack_iff (by norm_num), ← shortLenPack_eq, ← sweepStatus_eq_deactivated_iff, ← sweepPackOf_eq]
  change (!decide (_ ≠ _ ∧ _ ≠ _)) = true ↔ _
  rw [Bool.not_eq_true', decide_eq_false_iff_not, not_and_or, not_not, not_not, or_comm]
  rfl

theorem runPulseB_stopped_iff : (runPulseB d s).apu.pulseB.voice.stopped = true ↔
    LengthOver s 64 ioNR21 ioNR24 (runPulseB d s).apu.pulseB.len := by
  rw [← lenStatus_lengthPack_iff (by norm_num), ← shortLenPack_eq]
  exact not_decide_ne_iff

theorem runWave_stopped_iff : (runWave P d s).apu.wave.voice.stopped = true ↔
    LengthOver s 256 ioNR31 ioNR34 (runWave P d s).apu.wave.len := by
  rw [← lenStatus_lengthPack_iff (by norm_num), ← waveLenPack_eq]
  exact not_decide_ne_iff

theorem runNoise_stopped_iff : (runNoise P d s).apu.noise.voice.stopped = true ↔
    LengthOver s 64 ioNR41 ioNR44 (runNoise P d s).apu.noise.len := by
  rw [← lenStatus_lengthPack_iff (by norm_num), ← shortLenPack_eq]
  exact not_decide_ne_iff

/-! ### Frequencies (R335 to R337, R342) -/

theorem runPulseA_frequency : (runPulseA P d s).apu.pulseA.voice.frequency =
    sweepFrequency (sweepPackSpec P s) (runPulseA P d s).apu.pulseA.sweep.elapsed s.apu.pulseA.voice.frequency := by
  rw [← sweepPackOf_eq]
  rfl

theorem runPulseB_frequency : (runPulseB d s).apu.pulseB.voice.frequency =
    bitsToFrequency (freqValue s ioNR23 ioNR24) := by
  rw [← freqBits_toNat]
  rfl

theorem runWave_frequency : (runWave P d s).apu.wave.voice.frequency * (2048 - (freqValue s ioNR33 ioNR34 : Rat)) =
    P.waveFreqNum := by
  have hlt : (freqValue s ioNR33 ioNR34 : Rat) < 2048 := by exact_mod_cast freqValue_lt s ioNR33 ioNR34
  have hfreq : (runWave P d s).apu.wave.voice.frequency =
      P.waveFreqNum / (2048 - (freqValue s ioNR33 ioNR34 : Rat)) := by
    rw [← freqBits_toNat]
    rfl
  rw [hfreq, div_mul_cancel₀ _ (by linarith)]

end

section
variable {P : Config.Params} {s : State} {x old : Rat}

theorem sweepFrequency_of_zero (h : sweepSeconds P s = 0) :
    sweepFrequency (sweepPackSpec P s) x old = bitsToFrequency (freqValue s ioNR13 ioNR14) := by
  have hstatus : sweepStatus (sweepPackSpec P s) x = .notApplicable := if_pos h
  simp only [sweepFrequency, hstatus]
  rw [← freqBits_toNat, freqBits_eq]
  rfl

theorem sweepFrequency_of_active (h : sweepSeconds P s ≠ 0) (hactive : ¬ SweepOver P s x) :
    sweepFrequency (sweepPackSpec P s) x old = bitsToFrequency (sweptBits P s x) := by
  have hstatus : sweepStatus (sweepPackSpec P s) x = .active := by
    rw [sweepStatus, sweepBits_eq, if_neg fun hout => hactive ⟨h, hout⟩]
    exact if_neg h
  simp only [sweepFrequency, hstatus, sweepBits_eq]

theorem sweepFrequency_of_over (h : SweepOver P s x) : sweepFrequency (sweepPackSpec P s) x old = old := by
  simp only [sweepFrequency, (sweepStatus_eq_deactivated_iff P s x).2 h]

end

/-- Settles O59: each voice is its own run, routed; its envelopes give its status, and the four statuses give NR52. -/
theorem voiceStatus : Obligations.VoiceStatus := by
  unfold Obligations.VoiceStatus
  refine ⟨?_, defaultSweepTime_eq⟩
  rintro P d s t hs hm rfl
  have hbits := fun k (hk : k < 8) => apuRun_on_nr52_bits (P := P) (d := d) hs hm hk
  have hversion := (apuRun_on_nr52 (P := P) (d := d) hm).2.trans (voicesRun_nr52 hs P _).2
  refine ⟨?_, ?_, ?_, fun k hk => ?_, hversion, fun h0 => ?_, fun h0 hactive => ?_, fun hover => ?_⟩
  · rw [apuRun_on_pulseA hs hm, apuRun_on_pulseB hs hm, apuRun_on_wave hs hm, apuRun_on_noise hs hm]
    exact ⟨rfl, rfl, rfl, rfl⟩
  · rw [apuRun_on_pulseA hs hm, apuRun_on_pulseB hs hm, apuRun_on_wave hs hm, apuRun_on_noise hs hm]
    exact ⟨runPulseA_len P d s, runPulseB_len d s, runWave_len P d s, runNoise_len P d s, runPulseA_sweep P d s⟩
  · rw [apuRun_on_pulseA hs hm, apuRun_on_pulseB hs hm, apuRun_on_wave hs hm, apuRun_on_noise hs hm]
    exact ⟨runPulseA_stopped_iff P _ s, runPulseB_stopped_iff _ s, runWave_stopped_iff P _ s,
      runNoise_stopped_iff P _ s⟩
  · interval_cases k <;> exact hbits _ hk
  · rw [apuRun_on_pulseA hs hm]
    exact (runPulseA_frequency ..).trans (sweepFrequency_of_zero h0)
  · rw [apuRun_on_pulseA hs hm] at hactive ⊢
    exact (runPulseA_frequency ..).trans (sweepFrequency_of_active h0 hactive)
  · rw [apuRun_on_pulseA hs hm] at hover ⊢
    exact (runPulseA_frequency ..).trans (sweepFrequency_of_over hover)

/-! ### The fields of the voices (R335 to R340, R343 to R345, R347, R349) -/

/-- The routing of a voice by NR51; on no side it keeps the pan it had (R347). -/
theorem route_fields {v old : Voice} (h : v.pan = old.pan) (nr51 : Byte) (i : Nat) :
    (v.route nr51 i).rightOn = nr51.getLsbD i ∧ (v.route nr51 i).leftOn = nr51.getLsbD (4 + i) ∧
      (v.route nr51 i).pan = panOf (nr51.getLsbD (4 + i)) (nr51.getLsbD i) old.pan :=
  ⟨rfl, rfl, h ▸ rfl⟩

/-- Settles O60: each voice is its own run, which takes its fields from its registers, then routed by NR51. -/
theorem voiceFields : Obligations.VoiceFields := by
  unfold Obligations.VoiceFields
  refine ⟨?_, rfl, defaultNoiseFreq_mul⟩
  rintro P d s t hs hm rfl
  rw [apuRun_on_pulseA hs hm, apuRun_on_pulseB hs hm, apuRun_on_wave hs hm, apuRun_on_noise hs hm]
  refine ⟨runPulseB_frequency (d / 4194304) s, runWave_frequency P (d / 4194304) s, rfl, runPulseA_amp P d s,
    runPulseB_amp d s, runNoise_amp P d s, rfl, rfl, ⟨rfl, rfl, rfl⟩, dutyOf_eq _, dutyOf_eq _, ?_⟩
  simp only [List.forall_mem_cons]
  exact ⟨route_fields rfl _ 0, route_fields rfl _ 1, route_fields rfl _ 2, route_fields rfl _ 3,
    List.forall_mem_nil _⟩

end Sys2Proof.Machine
end
